-- ==== Sys2Proof/Word.lean ====
section
/-! DEFINITION. The words of CRCS and their widths (spec/00_scope.md R9 to R11). -/

namespace Sys2Proof

/-- One byte of a serial transfer (R57). -/
abbrev Byte := BitVec 8

/-- The chip's 16-bit configuration register, as the block holds and transmits it (R22, R77). -/
abbrev ConfigWord := BitVec 16

/-- A sample code: a 16-bit pattern, two's complement where a signed meaning is needed (R55). -/
abbrev Sample := BitVec 16

/-- A command word of the command port (R70). -/
abbrev CommandWord := BitVec 32

/-- A scaled value, `s21` (R34, R200, R202). -/
abbrev ScaledValue := BitVec 21

end Sys2Proof
end

