-- ==== Sys2Proof/Syntax.lean ====
section
/-! DEFINITION. The 15 commands of CRCS (spec/30_encoding.md R72), one constructor per row of spec/opcode_table.json. -/

namespace Sys2Proof

/-- A command with its operands. `arg` is a number, never cut to a field's width (R73); `data` is a 16-bit pattern (R73). -/
inductive Instr where
  /-- INIT (R230) -/
  | init
  /-- SET_RATE rate (R105) -/
  | setRate (arg : Nat)
  /-- SET_GAIN gain (R106) -/
  | setGain (arg : Nat)
  /-- SET_MUX mux (R107) -/
  | setMux (arg : Nat)
  /-- SET_OPMODE mode (R108) -/
  | setOpmode (arg : Nat)
  /-- SET_PULLUP pull-up (R109) -/
  | setPullup (arg : Nat)
  /-- READ_ADC channel (R180) -/
  | readAdc (arg : Nat)
  /-- READ_MV channel (R231) -/
  | readMv (arg : Nat)
  /-- READ_ADC_NW (R181) -/
  | readAdcNw
  /-- READ_MV_NW (R232) -/
  | readMvNw
  /-- READ_RAW (R233) -/
  | readRaw
  /-- READ_TEMP (R234) -/
  | readTemp
  /-- LATENCY rate (R131) -/
  | latency (arg : Nat)
  /-- SCALE_MV gain, code (R203) -/
  | scaleMv (arg : Nat) (data : Sample)
  /-- SCALE_TEMP code (R204) -/
  | scaleTemp (data : Sample)
deriving DecidableEq, Repr

end Sys2Proof
end

