-- ==== Sys2Proof/WellFormed.lean ====
section
/-! DEFINITION. When a command's operands fit its word (spec/30_encoding.md R71, R73, R82). -/

namespace Sys2Proof

/-- An `arg` operand is "a decimal or hex number 0 to 255" (R82). -/
abbrev argFits (a : Nat) : Bool := decide (a ≤ 255)

/-- The operands fit the fields of R71. Being in a field's range (0 to 7, 0 to 1) is no part of it: such a word is legal and
answered OUT_OF_RANGE (R76). -/
def Instr.wellFormed : Instr → Bool
  | .init => true
  | .setRate a => argFits a
  | .setGain a => argFits a
  | .setMux a => argFits a
  | .setOpmode a => argFits a
  | .setPullup a => argFits a
  | .readAdc a => argFits a
  | .readMv a => argFits a
  | .readAdcNw => true
  | .readMvNw => true
  | .readRaw => true
  | .readTemp => true
  | .latency a => argFits a
  | .scaleMv a _ => argFits a
  | .scaleTemp _ => true

end Sys2Proof
end

