-- ==== Sys2Proof/Decode.lean ====
section
/-! DEFINITION. The command decoder, the encoder and the assembler (spec/30_encoding.md R70 to R76, R82). -/

namespace Sys2Proof

/-- Why a word is illegal: one name per condition of R74. -/
inductive Reject where
  /-- `op = 0x0` -/
  | opcodeZero
  /-- `rsv != 0` -/
  | rsvNonZero
  /-- `arg != 0` for an opcode whose `arg` column is 0 -/
  | argNonZero
  /-- `data != 0` for an opcode whose `data` column is 0 -/
  | dataNonZero
deriving DecidableEq, Repr

/-! The fields of a command word (R71). -/

def opField (w : CommandWord) : BitVec 4 := w.extractLsb' 28 4
def rsvField (w : CommandWord) : BitVec 4 := w.extractLsb' 24 4
def argField (w : CommandWord) : Byte := w.extractLsb' 16 8
def dataField (w : CommandWord) : Sample := w.extractLsb' 0 16

/-! The opcode map (R72). -/

namespace Op
abbrev init : BitVec 4 := 0x1
abbrev setRate : BitVec 4 := 0x2
abbrev setGain : BitVec 4 := 0x3
abbrev setMux : BitVec 4 := 0x4
abbrev setOpmode : BitVec 4 := 0x5
abbrev setPullup : BitVec 4 := 0x6
abbrev readAdc : BitVec 4 := 0x7
abbrev readMv : BitVec 4 := 0x8
abbrev readAdcNw : BitVec 4 := 0x9
abbrev readMvNw : BitVec 4 := 0xA
abbrev readRaw : BitVec 4 := 0xB
abbrev readTemp : BitVec 4 := 0xC
abbrev latency : BitVec 4 := 0xD
abbrev scaleMv : BitVec 4 := 0xE
abbrev scaleTemp : BitVec 4 := 0xF
end Op

/-- Form CMD32.none: `arg` and `data` must be 0 (R71). -/
def formNone (w : CommandWord) (i : Instr) : Except Reject Instr :=
  if argField w ≠ 0 then .error .argNonZero
  else if dataField w ≠ 0 then .error .dataNonZero
  else .ok i

/-- Form CMD32.arg: `data` must be 0; `arg` is read as an unsigned number (R71, R73). -/
def formArg (w : CommandWord) (mk : Nat → Instr) : Except Reject Instr :=
  if dataField w ≠ 0 then .error .dataNonZero else .ok (mk (argField w).toNat)

/-- Form CMD32.arg_data: both fields are used (R71, R73). -/
def formArgData (w : CommandWord) (mk : Nat → Sample → Instr) : Except Reject Instr :=
  .ok (mk (argField w).toNat (dataField w))

/-- Form CMD32.data: `arg` must be 0 (R71, R73). -/
def formData (w : CommandWord) (mk : Sample → Instr) : Except Reject Instr :=
  if argField w ≠ 0 then .error .argNonZero else .ok (mk (dataField w))

/-- The decoder: total, and strict in every unused field (R74, R75). The last case is `op = 0xF`, the one value of the
4-bit field that is left. -/
def decode (w : CommandWord) : Except Reject Instr :=
  if opField w = 0 then .error .opcodeZero
  else if rsvField w ≠ 0 then .error .rsvNonZero
  else
    match (opField w).toNat with
    | 0x1 => formNone w .init
    | 0x2 => formArg w .setRate
    | 0x3 => formArg w .setGain
    | 0x4 => formArg w .setMux
    | 0x5 => formArg w .setOpmode
    | 0x6 => formArg w .setPullup
    | 0x7 => formArg w .readAdc
    | 0x8 => formArg w .readMv
    | 0x9 => formNone w .readAdcNw
    | 0xA => formNone w .readMvNw
    | 0xB => formNone w .readRaw
    | 0xC => formNone w .readTemp
    | 0xD => formArg w .latency
    | 0xE => formArgData w .scaleMv
    | _ => formData w .scaleTemp

/-- The word of an opcode and its operand fields: `{op, 0b0000, arg, data}` (R71). -/
def packWord (op : BitVec 4) (arg : Nat) (data : Sample) : CommandWord :=
  (op.setWidth 32 <<< 28) ||| ((0#4).setWidth 32 <<< 24) ||| ((BitVec.ofNat 8 arg).setWidth 32 <<< 16) ||| data.setWidth 32

/-- The word of a command (R71, R72). -/
def encode : Instr → CommandWord
  | .init => packWord Op.init 0 0
  | .setRate a => packWord Op.setRate a 0
  | .setGain a => packWord Op.setGain a 0
  | .setMux a => packWord Op.setMux a 0
  | .setOpmode a => packWord Op.setOpmode a 0
  | .setPullup a => packWord Op.setPullup a 0
  | .readAdc a => packWord Op.readAdc a 0
  | .readMv a => packWord Op.readMv a 0
  | .readAdcNw => packWord Op.readAdcNw 0 0
  | .readMvNw => packWord Op.readMvNw 0 0
  | .readRaw => packWord Op.readRaw 0 0
  | .readTemp => packWord Op.readTemp 0 0
  | .latency a => packWord Op.latency a 0
  | .scaleMv a d => packWord Op.scaleMv a d
  | .scaleTemp d => packWord Op.scaleTemp 0 d

/-- What the decoder reads from an instruction whose bits are `w` (spec/opcode_table.json numbers bit 0 as the least
significant bit of the one 32-bit word). -/
def decodeTableWord (nbits w : Nat) : Option Instr :=
  match decode (BitVec.ofNat 32 (w % 2 ^ nbits)) with
  | .ok i => some i
  | .error _ => none

/-! ## The assembler (R82)

First the mnemonic with its operands as numbers in the order they are written, `none` where the assembler rejects them; then
the text of a line (what R82 leaves open about blanks is in notes/assumptions/12.md). -/

/-- An `arg` operand: 0 to 255. -/
def asmArg (mk : Nat → Instr) (a : Int) : Option Instr :=
  if 0 ≤ a ∧ a ≤ 255 then some (mk a.toNat) else none

/-- A `data` operand: 0 to 0xFFFF, or -32768 to -1 as its 16-bit two's-complement pattern. -/
def asmData (d : Int) : Option Sample :=
  if -32768 ≤ d ∧ d ≤ 65535 then some (BitVec.ofInt 16 d) else none

/-- A command of R82: mnemonic and operands. -/
def assemble (mnemonic : String) (operands : List Int) : Option Instr :=
  match mnemonic, operands with
  | "INIT", [] => some .init
  | "SET_RATE", [a] => asmArg .setRate a
  | "SET_GAIN", [a] => asmArg .setGain a
  | "SET_MUX", [a] => asmArg .setMux a
  | "SET_OPMODE", [a] => asmArg .setOpmode a
  | "SET_PULLUP", [a] => asmArg .setPullup a
  | "READ_ADC", [a] => asmArg .readAdc a
  | "READ_MV", [a] => asmArg .readMv a
  | "READ_ADC_NW", [] => some .readAdcNw
  | "READ_MV_NW", [] => some .readMvNw
  | "READ_RAW", [] => some .readRaw
  | "READ_TEMP", [] => some .readTemp
  | "LATENCY", [a] => asmArg .latency a
  | "SCALE_MV", [a, d] => (asmData d).bind fun data => asmArg (fun n => .scaleMv n data) a
  | "SCALE_TEMP", [d] => (asmData d).map .scaleTemp
  | _, _ => none

/-- A decimal digit. -/
def decimalDigit (c : Char) : Option Nat :=
  if '0' ≤ c ∧ c ≤ '9' then some (c.toNat - '0'.toNat) else none

/-- A hexadecimal digit. -/
def hexDigit (c : Char) : Option Nat :=
  if '0' ≤ c ∧ c ≤ '9' then some (c.toNat - '0'.toNat)
  else if 'a' ≤ c ∧ c ≤ 'f' then some (c.toNat - 'a'.toNat + 10)
  else if 'A' ≤ c ∧ c ≤ 'F' then some (c.toNat - 'A'.toNat + 10)
  else none

/-- Digits of a base, most significant first, after the value `acc` of the digits before them. -/
def readDigits (base : Nat) (digit : Char → Option Nat) : Nat → List Char → Option Nat
  | acc, [] => some acc
  | acc, c :: cs =>
    match digit c with
    | some d => readDigits base digit (acc * base + d) cs
    | none => none

/-- A decimal number of one digit or more. -/
def readDecimal : List Char → Option Nat
  | [] => none
  | c :: cs => readDigits 10 decimalDigit 0 (c :: cs)

/-- An operand: hexadecimal after `0x`, signed decimal after `-`, decimal else. -/
def readOperand : List Char → Option Int
  | '-' :: cs => (readDecimal cs).map fun n => -(n : Int)
  | '0' :: 'x' :: c :: cs => (readDigits 16 hexDigit 0 (c :: cs)).map fun n => (n : Int)
  | cs => (readDecimal cs).map fun n => (n : Int)

/-- A character that may stand around a mnemonic or an operand. -/
def isBlank (c : Char) : Bool := c == ' ' || c == '\t' || c == '\r'

/-- Text without the blanks at its two ends. -/
def trimBlanks (cs : List Char) : List Char :=
  ((cs.dropWhile isBlank).reverse.dropWhile isBlank).reverse

/-- Text cut at every separator. -/
def splitAtChar (sep : Char) : List Char → List (List Char)
  | [] => [[]]
  | c :: cs =>
    if c = sep then [] :: splitAtChar sep cs
    else
      match splitAtChar sep cs with
      | [] => [[c]]
      | w :: ws => (c :: w) :: ws

/-- The operands of a line, separated by commas. -/
def readOperands (cs : List Char) : Option (List Int) :=
  if cs = [] then some [] else (splitAtChar ',' cs).mapM fun w => readOperand (trimBlanks w)

/-- A line: a comment starts with `;`, and what is before it is one command or nothing. -/
def assembleLine (line : List Char) : Option (List Instr) :=
  let body := trimBlanks (line.takeWhile fun c => c != ';')
  if body = [] then some []
  else
    let mnemonic := body.takeWhile fun c => !isBlank c
    let operands := readOperands (trimBlanks (body.dropWhile fun c => !isBlank c))
    operands.bind fun ns => (assemble (String.ofList mnemonic) ns).map fun i => [i]

/-- A text, one command per line, as the command words the host presents. -/
def assembleText (text : List Char) : Option (List CommandWord) :=
  ((splitAtChar '\n' text).mapM assembleLine).map fun ls => ls.flatten.map encode

end Sys2Proof
end

