-- ==== Sys2Proof/Config.lean ====
section
/-! DEFINITION. What the environment presents to the block at one step (spec/10_state.md R35), and the model's free values:
constants without a body, which no proof can evaluate (notes/assumptions/1.md, 7.md). -/

namespace Sys2Proof

/-- The transport's answer to the transfer the block is asking for (R140, R144). -/
inductive XferAnswer where
  /-- no answer in this step: the block holds in TX_XFER (R293) -/
  | pending
  /-- the byte received in the same transfer -/
  | byte (b : Byte)
  /-- the transport reports a failed transfer -/
  | fail
deriving DecidableEq, Repr, Inhabited

/-- The levels of the block's input ports in one step (R35). Each is a draw under no law (R8, R144). -/
structure Ports where
  /-- `reset` (R280) -/
  reset : Bool
  /-- `cmd_valid` (R220) -/
  cmdValid : Bool
  /-- `cmd_word` (R70) -/
  cmdWord : CommandWord
  /-- `drdy_n`, active low: true is the deasserted level 1 (R178) -/
  drdyN : Bool
  /-- the transport's answer to a transfer (R142, R143) -/
  xfer : XferAnswer
  /-- `timer_expired` (R176) -/
  timerExpired : Bool
deriving DecidableEq, Repr, Inhabited

namespace Config

/-- FREE VALUE (notes/assumptions/1.md). The port levels of the step with the given number, once the list of levels that the
state carries has run out. -/
opaque freePorts : Nat → Ports

/-- FREE VALUE (notes/assumptions/7.md). The value delivered at the end of a frame for a `curOp` that is no acquisition
command: the table of R177 has no row for it. -/
opaque undeliveredValue : BitVec 4 → Sample → ScaledValue

end Config

end Sys2Proof
end

