-- ==== Sys2Proof/Machine/State.lean ====
section
/-! DEFINITION. The state of CRCS and its value after reset (spec/10_state.md R20 to R37, spec/70_reset_and_hazards.md R280).
Every field is plain data. INVENTORY.md lists each with its rule. -/

namespace Sys2Proof.Machine

/-- The sensor mode a command requests, `reqMode` (R32). -/
inductive SensorMode where
  | adc
  | temperature
deriving DecidableEq, Repr

/-- `lastMode`, the source's `lastSensorMode` (R23). The code 0b11 "is never held" (notes/assumptions/8.md). -/
inductive LastMode where
  | adc
  | temperature
  | uninitialized
deriving DecidableEq, Repr

/-- `seq`, the sequencer state (R26). -/
inductive Seq where
  | idle
  | txBegin
  | txXfer
  | txEnd
  | wait
deriving DecidableEq, Repr

/-- `phase`, the role of the transaction in progress (R27). -/
inductive Phase where
  | discard
  | final
  | nowait
deriving DecidableEq, Repr

/-- `rsp_status` (R250). The codes 5, 6 and 7 are "never written" (notes/assumptions/8.md). -/
inductive Status where
  | ok
  | outOfRange
  | busError
  | notReady
  | illegal
deriving DecidableEq, Repr

/-- The bus configuration handed to the transport at each transaction begin (R141). -/
structure BusCfg where
  /-- serial clock rate, SCLK_HZ (R9) -/
  clockHz : Nat
  /-- bit order: most significant bit first (R52) -/
  msbFirst : Bool
  /-- clock polarity (R52) -/
  clockPolarity : Nat
  /-- clock phase (R52) -/
  clockPhase : Nat
deriving DecidableEq, Repr

/-- An entry of the event history (R141, R146, R148): what the block does to the chip-select line, the transport and the
deadline timer (R35). -/
inductive Event where
  /-- `cs_n <- 0` -/
  | csAssert
  /-- `BusBegin(cfg)` -/
  | busBegin (c : BusCfg)
  /-- `BusXfer(out)`, once the transport has answered it -/
  | busXfer (out : Byte)
  /-- `BusEnd()` -/
  | busEnd
  /-- `cs_n <- 1` -/
  | csDeassert
  /-- `TimerStart(ms)` -/
  | timerStart (ms : BitVec 8)
deriving DecidableEq, Repr

/-- The machine stops with a fault: never. R254: "Trap entry does not exist"; every error is a response status and the block
goes on (R255), so there is no reason to stop and the type has no constructor. -/
inductive Fault : Type
deriving DecidableEq, Repr

/-- The machine has no meaning for a command. -/
inductive Refusal where
  /-- Raised by `exec` alone, for a command whose meaning is not modelled yet; no arm raises it, every command has its
  meaning. Safe: nothing is claimed of such a run. -/
  | notModelled (mnemonic : String)
deriving DecidableEq, Repr

/-- The state: the block's elements (R22 to R34), the integrator's parameters (R9), and the outside world as the spec speaks
of it and as the model needs it (notes/assumptions/1.md to 4.md). -/
structure State where
  /-- the ConfigWord register (R22) -/
  cfg : ConfigWord
  /-- the last sensor mode (R23) -/
  lastMode : LastMode
  /-- the sequencer state (R26) -/
  seq : Seq
  /-- the role of the transaction in progress (R27) -/
  phase : Phase
  /-- the index of the next byte transfer in the frame (R28) -/
  byteIdx : Fin 4
  /-- the ConfigWord being transmitted (R29) -/
  txWord : ConfigWord
  /-- the bytes received in the frame, byte 0 in the top byte (R30) -/
  rxBuf : BitVec 32
  /-- a transfer of the frame has failed (R31) -/
  txFail : Bool
  /-- the opcode of the last legal command (R32) -/
  curOp : BitVec 4
  /-- the sensor mode the acquisition in flight requests (R32) -/
  reqMode : SensorMode
  /-- the mux value the acquisition in flight requests (R32) -/
  reqChan : BitVec 3
  /-- the chip-select output `cs_n`, active low: true is the deasserted level 1 (R33) -/
  csN : Bool
  /-- `rsp_valid` (R34) -/
  rspValid : Bool
  /-- `rsp_status` (R34) -/
  rspStatus : Status
  /-- `rsp_raw` (R34) -/
  rspRaw : BitVec 16
  /-- `rsp_value` (R34) -/
  rspValue : ScaledValue
  /-- HAS_DRDY, an open parameter of the integrator (R9); no step writes it (notes/assumptions/2.md) -/
  hasDrdy : Bool
  /-- SCLK_HZ, an open parameter of the integrator (R9); no step writes it (notes/assumptions/2.md) -/
  sclkHz : Nat
  /-- the host's position in its command list (R21, R220; notes/assumptions/4.md) -/
  hostPos : Nat
  /-- the event history, oldest first (R141, R146; notes/assumptions/3.md) -/
  events : List Event
  /-- the MODEL's own field: the port levels of the coming steps, next step first (notes/assumptions/1.md) -/
  env : List Ports
  /-- the MODEL's own field: how many steps were taken, which indexes the free port levels (notes/assumptions/1.md) -/
  tick : Nat
deriving DecidableEq, Repr

/-- The machine right after reset: R280 for the block's elements; the parameters and the outside world as
notes/assumptions/1.md to 4.md say. -/
def State.reset : State where
  cfg := 0xB0F1
  lastMode := .uninitialized
  seq := .idle
  phase := .final
  byteIdx := 0
  txWord := 0x0000
  rxBuf := 0x00000000
  txFail := false
  curOp := 0x0
  reqMode := .adc
  reqChan := 0
  csN := true
  rspValid := false
  rspStatus := .ok
  rspRaw := 0x0000
  rspValue := 0
  hasDrdy := true
  sclkHz := 400000
  hostPos := 0
  events := []
  env := []
  tick := 0

end Sys2Proof.Machine
end

