-- ==== Sys2Proof/Machine/Codec.lean ====
section
/-! DEFINITION. The Config Register Codec (spec/40_codec.md R100 to R103, spec/30_encoding.md R78, R81). -/

namespace Sys2Proof.Machine

/-- The field record `F` (R81); it has no reserved member. -/
structure Fields where
  noop : BitVec 2
  pullup : BitVec 1
  sensor : BitVec 1
  rate : BitVec 3
  opmode : BitVec 1
  gain : BitVec 3
  mux : BitVec 3
  start : BitVec 1
deriving DecidableEq, Repr

/-- `encode(F)`: the fields at the positions of R78 and the reserved bit forced to 1 (R100). -/
def encodeFields (f : Fields) : ConfigWord :=
  (1#16 <<< 15)
    ||| (f.noop.setWidth 16 <<< 13)
    ||| (f.pullup.setWidth 16 <<< 12)
    ||| (f.sensor.setWidth 16 <<< 11)
    ||| (f.rate.setWidth 16 <<< 8)
    ||| (f.opmode.setWidth 16 <<< 7)
    ||| (f.gain.setWidth 16 <<< 4)
    ||| (f.mux.setWidth 16 <<< 1)
    ||| f.start.setWidth 16

/-- The field record of a word: the members of `decode(w)` (R101). -/
def fieldsOf (w : ConfigWord) : Fields where
  noop := w.extractLsb' 13 2
  pullup := w.extractLsb' 12 1
  sensor := w.extractLsb' 11 1
  rate := w.extractLsb' 8 3
  opmode := w.extractLsb' 7 1
  gain := w.extractLsb' 4 3
  mux := w.extractLsb' 1 3
  start := w.extractLsb' 0 1

/-- `decode(w)`: the reserved bit and the field record; total (R101). -/
def decodeFields (w : ConfigWord) : BitVec 1 × Fields :=
  (w.extractLsb' 15 1, fieldsOf w)

/-- "cfg with field x set to v": `encode(decode(cfg).F with x := v)` (R103), for the update `upd` of the record. -/
def updateFields (upd : Fields → Fields) (w : ConfigWord) : ConfigWord :=
  encodeFields (upd (decodeFields w).2)

/-! One update per field that a command writes (R103, R110). -/

def Fields.withRate (v : BitVec 3) (f : Fields) : Fields := { f with rate := v }
def Fields.withGain (v : BitVec 3) (f : Fields) : Fields := { f with gain := v }
def Fields.withMux (v : BitVec 3) (f : Fields) : Fields := { f with mux := v }
def Fields.withOpmode (v : BitVec 1) (f : Fields) : Fields := { f with opmode := v }
def Fields.withPullup (v : BitVec 1) (f : Fields) : Fields := { f with pullup := v }
def Fields.withSensor (v : BitVec 1) (f : Fields) : Fields := { f with sensor := v }

/-- The field record of INIT's word (R230). -/
def defaultFields : Fields where
  noop := 0b01
  pullup := 1
  sensor := 0
  rate := 0
  opmode := 1
  gain := 7
  mux := 0
  start := 1

/-- The `sensor` code of a sensor mode: 0 is ADC, 1 is temperature (R79). -/
def SensorMode.code : SensorMode → BitVec 1
  | .adc => 0
  | .temperature => 1

/-- The value `lastMode` takes for a sensor mode (R23). -/
def SensorMode.asLast : SensorMode → LastMode
  | .adc => .adc
  | .temperature => .temperature

/-- The bits of `last_mode_q` (R23, R35). -/
def LastMode.code : LastMode → BitVec 2
  | .adc => 0b00
  | .temperature => 0b01
  | .uninitialized => 0b10

/-- The bits of `rsp_status` (R250). -/
def Status.code : Status → BitVec 3
  | .ok => 0
  | .outOfRange => 1
  | .busError => 2
  | .notReady => 3
  | .illegal => 4

end Sys2Proof.Machine
end

