-- ==== Sys2Proof/Machine/Flags.lean ====
section
/-! DEFINITION. The response registers, "the block's only flags" (spec/10_state.md R34, spec/45_device_interface.md R221,
R222). -/

namespace Sys2Proof.Machine

/-- `respond(status, raw, value)` (R222). -/
def respond (status : Status) (raw : BitVec 16) (value : ScaledValue) (s : State) : State :=
  { s with rspValid := true, rspStatus := status, rspRaw := raw, rspValue := value }

/-- `respond(status, 0x0000, 0)`: "Whenever the status is not OK, `raw = 0x0000` and `value = 0`" (R222). -/
def respondError (status : Status) (s : State) : State := respond status 0x0000 0 s

/-- `raise status`: the command in flight finishes with the status and the block goes to IDLE (R12, R254). There is no trap:
this is all that an error does. -/
def raiseStatus (status : Status) (s : State) : State := { respondError status s with seq := .idle }

/-- `rsp_valid <- 0` of the accept step (R221). -/
def clearValid (s : State) : State := { s with rspValid := false }

end Sys2Proof.Machine
end

