-- ==== Sys2Proof/Machine/Operands.lean ====
section
/-! DEFINITION. What a step reads: the port levels (spec/10_state.md R35), the command operands (spec/30_encoding.md R73)
and the fields of `cfg` (spec/40_codec.md R103). -/

namespace Sys2Proof.Machine

/-- The port levels of the coming step: the next of the list, or a free draw once the list has run out
(notes/assumptions/1.md). -/
def State.ports (s : State) : Ports :=
  match s.env with
  | p :: _ => p
  | [] => Config.freePorts s.tick

/-- The command word the host presents, if it presents one (`cmd_valid`, R220). -/
def State.presented (s : State) : Option CommandWord :=
  if s.ports.cmdValid then some s.ports.cmdWord else none

/-- The level a non-blocking command reads: `drdy_n`, or 1 where the line is not wired (R178). -/
def State.drdyLevel (s : State) : Bool :=
  if s.hasDrdy then s.ports.drdyN else true

/-- An `arg` operand as a field value of `width` bits, `none` when it is above the field's largest value (R73, R104). -/
def checkedField (width max : Nat) (arg : Nat) : Option (BitVec width) :=
  if arg > max then none else some (BitVec.ofNat width arg)

/-! The fields of `cfg` that a rule reads (R103). -/

def State.cfgRate (s : State) : BitVec 3 := (decodeFields s.cfg).2.rate
def State.cfgGain (s : State) : BitVec 3 := (decodeFields s.cfg).2.gain
def State.cfgMux (s : State) : BitVec 3 := (decodeFields s.cfg).2.mux
def State.cfgSensor (s : State) : BitVec 1 := (decodeFields s.cfg).2.sensor

end Sys2Proof.Machine
end

