-- ==== Sys2Proof/Machine/Tables.lean ====
section
/-! DEFINITION. The Conversion Timing Table (spec/41_timing_table.md R130) and the Value Conversion
(spec/44_value_conversion.md R200, R202). -/

namespace Sys2Proof.Machine

/-- `LAT(rate)`: worst-case conversion time in whole milliseconds (R130). The last case is rate 7. -/
def lat (rate : BitVec 3) : BitVec 8 :=
  match rate.toNat with
  | 0 => 125
  | 1 => 63
  | 2 => 32
  | 3 => 16
  | 4 => 8
  | 5 => 4
  | 6 => 3
  | _ => 2

/-- `FS_MV[gain]`: full scale in millivolts (R200). The last case is gain 7. -/
def fsMv (gain : BitVec 3) : Nat :=
  match gain.toNat with
  | 0 => 6144
  | 1 => 4096
  | 2 => 2048
  | 3 => 1024
  | 4 => 512
  | 5 => 256
  | 6 => 256
  | _ => 256

/-- `K[gain] = FS_MV[gain] / 256` (R200). -/
def kFactor (gain : BitVec 3) : Nat := fsMv gain / 256

/-- `SCALE_MV_Q7(code, gain) = signed(code) * K[gain]`, in units of 1/128 mV (R200). -/
def scaleMvQ7 (code : Sample) (gain : BitVec 3) : ScaledValue :=
  BitVec.ofInt 21 (code.toInt * (kFactor gain : Int))

/-- `SCALE_TEMP_Q3(code) = sext_21(code)`, in units of 1/8 degree C (R202). -/
def scaleTempQ3 (code : Sample) : ScaledValue := code.signExtend 21

end Sys2Proof.Machine
end

