-- ==== Sys2Proof/Machine/Ops.lean ====
section
/-! DEFINITION. The shared operations: accepting a command, the setters, the acquisition state machine
(spec/43_conversion_fsm.md), the bus transaction (spec/42_bus_transaction.md) and the reset step
(spec/70_reset_and_hazards.md). An error is `raiseStatus` or `respondError` of Flags.lean; there is no trap (R254). -/

namespace Sys2Proof.Machine

/-- The outcome of one step. -/
abbrev Result := Host.Outcome State Fault Refusal

/-! ## Around a step -/

/-- The environment goes on by one step: the port levels just read are gone. -/
def advance (s : State) : State := { s with env := s.env.tail, tick := s.tick + 1 }

/-- `advance` on the outcome of a command. -/
def advanceResult : Result → Result
  | .next t => .next (advance t)
  | .fault f => .fault f
  | .refused r => .refused r

/-- Entries are added to the event history (R141, R146). -/
def emit (es : List Event) (s : State) : State := { s with events := s.events ++ es }

/-- `s` with a command word presented in the coming step, no reset asserted in it and the block ready to take it; the other
port levels of that step and of all later ones stay. -/
def presentCommand (w : CommandWord) (s : State) : State :=
  { s with
    seq := .idle
    env := { s.ports with reset := false, cmdValid := true, cmdWord := w } :: s.env.tail }

/-! ## Accepting a command (R220, R221) -/

/-- The part of the accept step that every word shares: `rsp_valid <- 0`, and the host's position goes on by one. -/
def acceptWord (s : State) : State := { clearValid s with hostPos := s.hostPos + 1 }

/-- The accept step of a legal command up to its own rule: `curOp <- op` (R221, R32). READ_ADC and READ_MV take it after their
range check (R180, notes/assumptions/10.md). -/
def acceptOp (op : BitVec 4) (s : State) : State := { acceptWord s with curOp := op }

/-- The accept step of an illegal word: status ILLEGAL and no other state change (R74, R221). -/
def acceptIllegal (s : State) : State := respondError .illegal (acceptWord s)

/-- The common setter behaviour (R104) for a field of `width` bits with largest legal value `max`; `upd v` writes the
value `v` into the field record. -/
def runSetter (width max : Nat) (upd : BitVec width → Fields → Fields) (arg : Nat) (s : State) : State :=
  match checkedField width max arg with
  | none => respondError .outOfRange s
  | some v => respond .ok (updateFields (upd v) s.cfg) 0 { s with cfg := updateFields (upd v) s.cfg }

/-! ## Acquisition (R171 to R178) -/

/-- `TimerStart(ms)` (R175). -/
def startTimer (ms : BitVec 8) (s : State) : State := emit [.timerStart ms] s

/-- `needDiscard(m, c)` (R171). -/
def needDiscard (m : SensorMode) (c : BitVec 3) (s : State) : Bool :=
  decide (s.lastMode ≠ m.asLast ∨ (m = .adc ∧ s.cfgMux ≠ c))

/-- The mux value of the staged word: the requested channel in ADC mode, the one held otherwise (R172). -/
def stagedMux (m : SensorMode) (c : BitVec 3) (s : State) : BitVec 3 :=
  match m with
  | .adc => c
  | .temperature => s.cfgMux

/-- `staged`: `cfg` with the requested sensor mode and mux value (R172). -/
def stagedWord (m : SensorMode) (c : BitVec 3) (s : State) : ConfigWord :=
  updateFields (fun f => (f.withSensor m.code).withMux (stagedMux m c s)) s.cfg

/-- Start of a blocking acquisition (R172). -/
def startBlocking (m : SensorMode) (c : BitVec 3) (s : State) : State :=
  if needDiscard m c s then
    { s with reqMode := m, reqChan := c, txWord := stagedWord m c s, phase := .discard, seq := .txBegin }
  else
    { startTimer (lat s.cfgRate) s with reqMode := m, reqChan := c, seq := .wait }

/-- The accept step of a blocking acquisition on the channel of an operand. The range check comes before `curOp <- op`: above
7 there is "no frame, no state change" (R180, R231; notes/assumptions/10.md). -/
def startChannelRead (op : BitVec 4) (arg : Nat) (s : State) : State :=
  match checkedField 3 7 arg with
  | none => respondError .outOfRange (acceptWord s)
  | some c => startBlocking .adc c (acceptOp op s)

/-- The sensor mode of READ_RAW: the last one, or the one `cfg.sensor` encodes while there is none (R233). -/
def rawMode (s : State) : SensorMode :=
  match s.lastMode with
  | .adc => .adc
  | .temperature => .temperature
  | .uninitialized => if s.cfgSensor = 1 then .temperature else .adc

/-- Start of a non-blocking acquisition (R178). -/
def startNonBlocking (s : State) : State :=
  if s.drdyLevel then respondError .notReady s
  else { s with txWord := s.cfg, phase := .nowait, seq := .txBegin }

/-! ## The bus transaction (R141 to R146) -/

/-- `BUS_CFG` (R141). -/
def busCfg (s : State) : BusCfg where
  clockHz := s.sclkHz
  msbFirst := true
  clockPolarity := 0
  clockPhase := 1

/-- Step TX_BEGIN (R141). -/
def txBegin (s : State) : State :=
  { emit [.csAssert, .busBegin (busCfg s)] s with
    csN := false
    byteIdx := 0
    txFail := false
    rxBuf := 0x00000000
    seq := .txXfer }

/-- `out_k`: the high byte of the word on transfers 0 and 2, the low byte on 1 and 3 (R54, R142). -/
def outByte (w : ConfigWord) (k : Fin 4) : Byte :=
  match k with
  | 0 => w.extractLsb' 8 8
  | 1 => w.extractLsb' 0 8
  | 2 => w.extractLsb' 8 8
  | 3 => w.extractLsb' 0 8

/-- `rxBuf[31-8k : 24-8k] <- in` (R142). -/
def putByte (buf : BitVec 32) (k : Fin 4) (b : Byte) : BitVec 32 :=
  (buf &&& ~~~(0xFF#32 <<< (24 - 8 * k.val))) ||| (b.setWidth 32 <<< (24 - 8 * k.val))

/-- A transfer is answered with a byte (R142). -/
def xferByte (b : Byte) (s : State) : State :=
  let t := { emit [.busXfer (outByte s.txWord s.byteIdx)] s with rxBuf := putByte s.rxBuf s.byteIdx b }
  match s.byteIdx with
  | 0 => { t with byteIdx := 1 }
  | 1 => { t with byteIdx := 2 }
  | 2 => { t with byteIdx := 3 }
  | 3 => { t with seq := .txEnd }

/-- A transfer fails (R143). -/
def xferFail (s : State) : State :=
  { emit [.busXfer (outByte s.txWord s.byteIdx)] s with txFail := true, seq := .txEnd }

/-- Step TX_XFER: the transport's answer, or no step yet (R142, R143, R293). -/
def txXfer (s : State) : State :=
  match s.ports.xfer with
  | .pending => s
  | .byte b => xferByte b s
  | .fail => xferFail s

/-- The sample of a completed frame (R55). -/
def State.sample (s : State) : Sample := s.rxBuf.extractLsb' 16 16

/-- `VALUE(curOp, sample)` (R177). The last case is for an opcode that R177's table does not list: no rule gives a value and
no run comes here (notes/assumptions/7.md). -/
def deliveredValue (op : BitVec 4) (sample : Sample) (gain : BitVec 3) : ScaledValue :=
  match op.toNat with
  | 0x7 => 0
  | 0x8 => scaleMvQ7 sample gain
  | 0x9 => 0
  | 0xA => scaleMvQ7 sample gain
  | 0xB => 0
  | 0xC => scaleTempQ3 sample
  | _ => Config.undeliveredValue op sample

/-- Commit after a successful discard frame (R174): the wait is for the rate of the word just committed (R132). -/
def commit (s : State) : State :=
  { startTimer (lat (decodeFields s.txWord).2.rate) s with
    cfg := s.txWord
    lastMode := s.reqMode.asLast
    seq := .wait }

/-- The terminal frame delivers its sample (R177). -/
def deliver (s : State) : State :=
  { respond .ok s.sample (deliveredValue s.curOp s.sample s.cfgGain) s with seq := .idle }

/-- Frame completion (R177). -/
def completeFrame (s : State) : State :=
  if s.txFail then raiseStatus .busError s
  else
    match s.phase with
    | .discard => commit s
    | .final => deliver s
    | .nowait => deliver s

/-- Step TX_END (R146). -/
def txEnd (s : State) : State :=
  completeFrame { emit [.busEnd, .csDeassert] s with csN := true }

/-- Step WAIT: the final frame once the timer has expired, no step before (R176). -/
def waitStep (s : State) : State :=
  if s.ports.timerExpired then { s with txWord := s.cfg, phase := .final, seq := .txBegin } else s

/-! ## Reset (R280, R282) -/

/-- The chip-select event of the reset step: an open frame is cut by deasserting the line, without `BusEnd()` (R282). -/
def resetEvents (s : State) : List Event := if s.csN then [] else [.csDeassert]

/-- The reset step: every element of the block at its reset value (R280). The integrator's parameters and the outside world
are no elements of the block and stay. -/
def resetStep (s : State) : State :=
  { State.reset with
    hasDrdy := s.hasDrdy
    sclkHz := s.sclkHz
    hostPos := s.hostPos
    events := s.events ++ resetEvents s
    env := s.env
    tick := s.tick }

/-! ## Output ports (R35) and the source's three states (R170) -/

def State.cmdReady (s : State) : Bool := decide (s.seq = .idle)
def State.cfgQ (s : State) : ConfigWord := s.cfg
def State.lastModeQ (s : State) : BitVec 2 := s.lastMode.code
def State.statusBits (s : State) : BitVec 3 := s.rspStatus.code

/-- A transaction is in progress. -/
def State.inFrame (s : State) : Bool :=
  match s.seq with
  | .idle => false
  | .txBegin => true
  | .txXfer => true
  | .txEnd => true
  | .wait => false

/-- The opcode of a blocking acquisition command (R180, R231, R233, R234). -/
def isBlockingOp (op : BitVec 4) : Bool :=
  op == Op.readAdc || op == Op.readMv || op == Op.readRaw || op == Op.readTemp

/-- The opcode of a non-blocking acquisition command (R181, R232). -/
def isNonBlockingOp (op : BitVec 4) : Bool := op == Op.readAdcNw || op == Op.readMvNw

/-- The source's state Idle (R170). -/
def State.isIdle (s : State) : Bool := decide (s.seq = .idle)

/-- The source's state Pending (R170). -/
def State.isPending (s : State) : Bool := decide (s.seq = .wait) || (s.inFrame && decide (s.phase = .discard))

/-- The source's state Ready (R170). -/
def State.isReady (s : State) : Bool :=
  decide (s.seq = .idle) && s.rspValid && decide (s.rspStatus = .ok) && (isBlockingOp s.curOp || isNonBlockingOp s.curOp)

end Sys2Proof.Machine
end

