-- ==== Sys2Proof/Machine/Acquire.lean ====
section
/-! DEFINITION. The acquisition commands (spec/43_conversion_fsm.md R180, R181; spec/45_device_interface.md R231 to R234).
Each meaning is the command's accept step (R221); its frames run in the steps of Step.lean. -/

namespace Sys2Proof.Machine

/-- READ_ADC (R180). -/
def execReadAdc (arg : Nat) (s : State) : Result :=
  .next (startChannelRead Op.readAdc arg s)

/-- READ_MV (R231). -/
def execReadMv (arg : Nat) (s : State) : Result :=
  .next (startChannelRead Op.readMv arg s)

/-- READ_ADC_NW (R181). -/
def execReadAdcNw (s : State) : Result :=
  .next (startNonBlocking (acceptOp Op.readAdcNw s))

/-- READ_MV_NW (R232). -/
def execReadMvNw (s : State) : Result :=
  .next (startNonBlocking (acceptOp Op.readMvNw s))

/-- READ_RAW: the last mode, and the channel `cfg` holds (R233). -/
def execReadRaw (s : State) : Result :=
  .next (startBlocking (rawMode s) s.cfgMux (acceptOp Op.readRaw s))

/-- READ_TEMP: temperature mode, and the channel `cfg` holds (R234). -/
def execReadTemp (s : State) : Result :=
  .next (startBlocking .temperature s.cfgMux (acceptOp Op.readTemp s))

end Sys2Proof.Machine
end

