-- ==== Sys2Proof/Machine/Compute.lean ====
section
/-! DEFINITION. The table lookup and the scaler as commands (spec/41_timing_table.md R131, spec/44_value_conversion.md R203,
R204). -/

namespace Sys2Proof.Machine

/-- `respond(OK, zext_16(LAT(a)), zext_21(LAT(a)))`, or OUT_OF_RANGE (R131). -/
def respondLatency (arg : Nat) (s : State) : State :=
  match checkedField 3 7 arg with
  | none => respondError .outOfRange s
  | some r => respond .ok ((lat r).setWidth 16) ((lat r).setWidth 21) s

/-- `respond(OK, data, SCALE_MV_Q7(data, g))`, or OUT_OF_RANGE (R203). -/
def respondMillivolts (arg : Nat) (data : Sample) (s : State) : State :=
  match checkedField 3 7 arg with
  | none => respondError .outOfRange s
  | some g => respond .ok data (scaleMvQ7 data g) s

/-- LATENCY (R131). -/
def execLatency (arg : Nat) (s : State) : Result :=
  .next (respondLatency arg (acceptOp Op.latency s))

/-- SCALE_MV (R203). -/
def execScaleMv (arg : Nat) (data : Sample) (s : State) : Result :=
  .next (respondMillivolts arg data (acceptOp Op.scaleMv s))

/-- SCALE_TEMP (R204). -/
def execScaleTemp (data : Sample) (s : State) : Result :=
  .next (respond .ok data (scaleTempQ3 data) (acceptOp Op.scaleTemp s))

end Sys2Proof.Machine
end

