-- ==== Sys2Proof/Machine/Setters.lean ====
section
/-! DEFINITION. INIT (spec/45_device_interface.md R230) and the field setters (spec/40_codec.md R104 to R109). -/

namespace Sys2Proof.Machine

/-- INIT (R230). -/
def execInit (s : State) : Result :=
  .next (respond .ok (encodeFields defaultFields) 0
    { acceptOp Op.init s with cfg := encodeFields defaultFields, lastMode := .uninitialized })

/-- SET_RATE (R105). -/
def execSetRate (arg : Nat) (s : State) : Result :=
  .next (runSetter 3 7 Fields.withRate arg (acceptOp Op.setRate s))

/-- SET_GAIN (R106). -/
def execSetGain (arg : Nat) (s : State) : Result :=
  .next (runSetter 3 7 Fields.withGain arg (acceptOp Op.setGain s))

/-- SET_MUX (R107). -/
def execSetMux (arg : Nat) (s : State) : Result :=
  .next (runSetter 3 7 Fields.withMux arg (acceptOp Op.setMux s))

/-- SET_OPMODE (R108). -/
def execSetOpmode (arg : Nat) (s : State) : Result :=
  .next (runSetter 1 1 Fields.withOpmode arg (acceptOp Op.setOpmode s))

/-- SET_PULLUP (R109). -/
def execSetPullup (arg : Nat) (s : State) : Result :=
  .next (runSetter 1 1 Fields.withPullup arg (acceptOp Op.setPullup s))

end Sys2Proof.Machine
end

