-- ==== Sys2Proof/Machine/Dispatch.lean ====
section
/-! DEFINITION. One arm per command: its accept step (spec/45_device_interface.md R221). -/

namespace Sys2Proof.Machine

def exec (i : Instr) (s : State) : Host.Outcome State Fault Refusal :=
  match i with
  | .init => Sys2Proof.Machine.execInit s
  | .setRate arg => Sys2Proof.Machine.execSetRate arg s
  | .setGain arg => Sys2Proof.Machine.execSetGain arg s
  | .setMux arg => Sys2Proof.Machine.execSetMux arg s
  | .setOpmode arg => Sys2Proof.Machine.execSetOpmode arg s
  | .setPullup arg => Sys2Proof.Machine.execSetPullup arg s
  | .readAdc arg => Sys2Proof.Machine.execReadAdc arg s
  | .readMv arg => Sys2Proof.Machine.execReadMv arg s
  | .readAdcNw => Sys2Proof.Machine.execReadAdcNw s
  | .readMvNw => Sys2Proof.Machine.execReadMvNw s
  | .readRaw => Sys2Proof.Machine.execReadRaw s
  | .readTemp => Sys2Proof.Machine.execReadTemp s
  | .latency arg => Sys2Proof.Machine.execLatency arg s
  | .scaleMv arg data => Sys2Proof.Machine.execScaleMv arg data s
  | .scaleTemp data => Sys2Proof.Machine.execScaleTemp data s

end Sys2Proof.Machine
end

