-- ==== Sys2Proof/Machine/Step.lean ====
section
/-! DEFINITION. One step of the block (spec/00_scope.md R7, R13): the reset step, or the one step its sequencer state allows
(spec/60_exceptions.md R259), after which the environment presents the next port levels. -/

namespace Sys2Proof.Machine

/-- The step in IDLE: nothing without a command, else its accept step (R220, R221). -/
def idleStep (s : State) : Host.Outcome State Fault Refusal :=
  match s.presented with
  | none => .next s
  | some w =>
    match decode w with
    | .error _ => .next (acceptIllegal s)
    | .ok i => exec i s

/-- The step that `seq` allows (R26). -/
def seqStep (s : State) : Host.Outcome State Fault Refusal :=
  match s.seq with
  | .idle => idleStep s
  | .txBegin => .next (txBegin s)
  | .txXfer => .next (txXfer s)
  | .txEnd => .next (txEnd s)
  | .wait => .next (waitStep s)

/-- One step. "Reset takes precedence over every other event" (R259, R280). -/
def step (s : State) : Host.Outcome State Fault Refusal :=
  match s.ports.reset with
  | true => advanceResult (.next (resetStep s))
  | false => advanceResult (seqStep s)

/-- `s` with the word presented on the command port so that the very next step accepts it (notes/assumptions/11.md). -/
def State.withFetchWord (s : State) (nbits w : Nat) : State :=
  presentCommand (BitVec.ofNat 32 (w % 2 ^ nbits)) s

end Sys2Proof.Machine
end

