-- ==== Sys2Proof/Safety.lean ====
section
/-! DEFINITION. What the claims call a good state: the invariant of the block's registers (spec/10_state.md R22 to R34) and
the shape of its event history (spec/42_bus_transaction.md R141 to R148). -/

namespace Sys2Proof.Machine

/-- The word `cfg` only ever holds: reserved bit 1 (R24), `noop` 0b01 and `start` 1 (R22). -/
def heldWord (w : ConfigWord) : Prop :=
  w.getLsbD 15 = true ∧ w.extractLsb' 13 2 = 0b01#2 ∧ w.getLsbD 0 = true

/-- The invariant of the block. -/
structure State.Inv (s : State) : Prop where
  /-- R22, R24 -/
  cfg_held : heldWord s.cfg
  /-- R25 -/
  last_adc : s.lastMode = .adc → s.cfgSensor = 0
  /-- R25 -/
  last_temperature : s.lastMode = .temperature → s.cfgSensor = 1
  /-- the chip-select is asserted exactly while a frame is open (R33) -/
  chip_select : s.csN = false ↔ (s.seq = .txXfer ∨ s.seq = .txEnd)
  /-- a response is valid only in IDLE (R223) -/
  valid_idle : s.rspValid = true → s.seq = .idle
  /-- a status other than OK comes with raw 0 and value 0 (R222) -/
  error_empty : s.rspStatus ≠ .ok → s.rspRaw = 0 ∧ s.rspValue = 0
  /-- a wait belongs to a blocking acquisition (R172, R174) -/
  wait_blocking : s.seq = .wait → isBlockingOp s.curOp = true
  /-- a frame belongs to the acquisition in flight, and its phase says of which kind (R27, R32) -/
  frame_blocking : s.inFrame = true → s.phase ≠ .nowait → isBlockingOp s.curOp = true
  /-- as above -/
  frame_nowait : s.inFrame = true → s.phase = .nowait → isNonBlockingOp s.curOp = true
  /-- a final or non-blocking frame transmits `cfg` (R29) -/
  frame_word : s.inFrame = true → s.phase ≠ .discard → s.txWord = s.cfg
  /-- a discard frame transmits the staged word (R29, R172) -/
  discard_word : s.inFrame = true → s.phase = .discard → s.txWord = stagedWord s.reqMode s.reqChan s
  /-- from the start of the wait on, the requested mode and channel are the ones held (R172, R174) -/
  settled : s.seq = .wait ∨ (s.inFrame = true ∧ s.phase = .final) →
    s.lastMode = s.reqMode.asLast ∧ (s.reqMode = .adc → s.cfgMux = s.reqChan)
  /-- no transfer follows a failed one in a frame (R143) -/
  xfer_clean : s.seq = .txXfer → s.txFail = false
  /-- a frame without a failure ends after its fourth transfer (R57, R142) -/
  end_complete : s.seq = .txEnd → s.txFail = false → s.byteIdx = 3

/-- Where a reader of the event history stands. -/
inductive BusScan where
  /-- no frame is open -/
  | closed
  /-- the chip-select is asserted -/
  | asserted
  /-- the transaction is open and these bytes were sent, first one first -/
  | opened (sent : List Byte)
  /-- the transaction is closed and the chip-select still asserted -/
  | ended
deriving DecidableEq, Repr

/-- One event after another as R148 orders them: chip-select asserted, `BusBegin(BUS_CFG)`, one to four transfers,
`BusEnd()`, chip-select deasserted; a timer starts only between frames. -/
def BusScan.next (bus : BusCfg) : BusScan → Event → Option BusScan
  | .closed, .csAssert => some .asserted
  | .closed, .timerStart _ => some .closed
  | .asserted, .busBegin c => if c = bus then some (.opened []) else none
  | .opened sent, .busXfer b => if sent.length < 4 then some (.opened (sent ++ [b])) else none
  | .opened sent, .busEnd => if sent = [] then none else some .ended
  | .ended, .csDeassert => some .closed
  | _, _ => none

/-- The reader of a whole history. -/
def scanEvents (bus : BusCfg) (es : List Event) : Option BusScan :=
  es.foldlM (BusScan.next bus) .closed

/-- The four bytes of a frame (R54). -/
def frameBytes (w : ConfigWord) : List Byte :=
  [w.extractLsb' 8 8, w.extractLsb' 0 8, w.extractLsb' 8 8, w.extractLsb' 0 8]

/-- Where the reader of the history stands in a state of the block: the bytes sent are those of `txWord`, in order. -/
def expectedScan (s : State) : BusScan :=
  match s.seq with
  | .idle => .closed
  | .txBegin => .closed
  | .wait => .closed
  | .txXfer => .opened ((frameBytes s.txWord).take s.byteIdx.val)
  | .txEnd => .opened ((frameBytes s.txWord).take (s.byteIdx.val + 1))

/-- The event history is a sequence of frames and timer starts, and its end is where the block is (R147, R148). -/
def State.HistoryFramed (s : State) : Prop :=
  scanEvents (busCfg s) s.events = some (expectedScan s)

/-- The events of a successful frame of the word `w` (R148). -/
def frameEvents (bus : BusCfg) (w : ConfigWord) : List Event :=
  [.csAssert, .busBegin bus, .busXfer (w.extractLsb' 8 8), .busXfer (w.extractLsb' 0 8), .busXfer (w.extractLsb' 8 8),
    .busXfer (w.extractLsb' 0 8), .busEnd, .csDeassert]

/-! ## The terms of the claims about commands -/

/-- The ports present no reset. -/
abbrev quiet (p : Ports) : Prop := p.reset = false

/-- The ports present no reset, and the transport answers a transfer with the byte. -/
abbrev answers (p : Ports) (b : Byte) : Prop := p.reset = false ∧ p.xfer = .byte b

/-- The ports present no reset, and the word on the command port. -/
abbrev commands (p : Ports) (w : CommandWord) : Prop := p.reset = false ∧ p.cmdValid = true ∧ p.cmdWord = w

/-- A word is illegal: the four conditions of R74, with the `arg` and `data` columns of R72 written out. -/
def illegalWord (w : CommandWord) : Prop :=
  opField w = 0 ∨ rsvField w ≠ 0 ∨
    (opField w ∈ [0x1#4, 0x9#4, 0xA#4, 0xB#4, 0xC#4, 0xF#4] ∧ argField w ≠ 0) ∨
    (opField w ∉ [0xE#4, 0xF#4] ∧ dataField w ≠ 0)

/-- The words with an opcode decode to a command made of their operands where every unused field is 0, and are illegal
otherwise (R72, R74). -/
def encodesAs (op : BitVec 4) (argUsed dataUsed : Bool) (mk : Nat → Sample → Instr) : Prop :=
  ∀ w : CommandWord, w.extractLsb' 28 4 = op →
    (w.extractLsb' 24 4 = 0 ∧ (argUsed = false → w.extractLsb' 16 8 = 0) ∧ (dataUsed = false → w.extractLsb' 0 16 = 0) →
      decode w = .ok (mk (w.extractLsb' 16 8).toNat (w.extractLsb' 0 16))) ∧
    (¬ (w.extractLsb' 24 4 = 0 ∧ (argUsed = false → w.extractLsb' 16 8 = 0) ∧ (dataUsed = false → w.extractLsb' 0 16 = 0)) →
      ∃ r, decode w = .error r)

/-- A command was accepted and is not answered yet: `curOp`, the host's position and `rsp_valid` (R220, R221). -/
def started (op : BitVec 4) (s : State) : State :=
  { s with curOp := op, hostPos := s.hostPos + 1, rspValid := false }

/-- A command was accepted and answered in the same step (R221, R222); `op` is what `curOp` then holds
(notes/assumptions/10.md). -/
def answered (op : BitVec 4) (status : Status) (raw : BitVec 16) (value : ScaledValue) (s : State) : State :=
  { s with
    curOp := op
    hostPos := s.hostPos + 1
    rspValid := true
    rspStatus := status
    rspRaw := raw
    rspValue := value }

/-- What `curOp` holds after the accept step of a word: its opcode, but the old value for an illegal word (R32, R74) and for a
READ_ADC or READ_MV whose channel is above 7 (R180, R231; notes/assumptions/10.md). -/
def opAfterAccept (w : CommandWord) (s : State) : BitVec 4 :=
  match decode w with
  | .error _ => s.curOp
  | .ok _ =>
    if (w.extractLsb' 28 4 = 0x7 ∨ w.extractLsb' 28 4 = 0x8) ∧ 7 < (w.extractLsb' 16 8).toNat then s.curOp
    else w.extractLsb' 28 4

/-- The environment has gone on by one step (the model's own fields, notes/assumptions/1.md). -/
def passed (s : State) : State := { s with env := s.env.tail, tick := s.tick + 1 }

/-- A state without the model's own fields `env` and `tick`: what the spec gives the machine. -/
def State.block (s : State) : State := { s with env := [], tick := 0 }

/-- The step answers a next state, and what the spec gives the machine is in it as in `t`. -/
def stepsTo (s t : State) : Prop := ∃ u, step s = .next u ∧ u.block = t.block

/-- The table of R130 as the spec prints it. -/
def latMs (rate : Nat) : Nat := [125, 63, 32, 16, 8, 4, 3, 2].getD rate 0

/-- The table FS_MV of R200 as the spec prints it. -/
def fullScaleMv (gain : Nat) : Int := [6144, 4096, 2048, 1024, 512, 256, 256, 256].getD gain 0

/-- The row K of R200 as the spec prints it. -/
def scaleFactor (gain : Nat) : Int := [24, 16, 8, 4, 2, 1, 1, 1].getD gain 0

/-- The value column of R177's table as an integer; no row for another opcode. -/
def deliveredInt (op : BitVec 4) (sample : Sample) (cfg : ConfigWord) : Option Int :=
  if op = 0x7 ∨ op = 0x9 ∨ op = 0xB then some 0
  else if op = 0x8 ∨ op = 0xA then some (sample.toInt * scaleFactor (cfg.extractLsb' 4 3).toNat)
  else if op = 0xC then some sample.toInt
  else none

/-- The staged word of R172 by its bits: `sensor` at bit 11 and `mux` at bits 3:1 replaced, the reserved bit 1. -/
def stagedBits (m : SensorMode) (c : BitVec 3) (cfg : ConfigWord) : ConfigWord :=
  match m with
  | .adc => (cfg &&& ~~~0x080E#16) ||| 0x8000#16 ||| (c.setWidth 16 <<< 1)
  | .temperature => cfg ||| 0x8800#16

/-- The change test of R171 on the bits of `cfg`. -/
def changeNeeded (m : SensorMode) (c : BitVec 3) (s : State) : Prop :=
  match m with
  | .adc => s.lastMode ≠ .adc ∨ s.cfg.extractLsb' 1 3 ≠ c
  | .temperature => s.lastMode ≠ .temperature

/-- `TimerStart(LAT(rate))` for the rate a word holds at bits 10:8. -/
def waitEvent (w : ConfigWord) : Event := .timerStart (BitVec.ofNat 8 (latMs (w.extractLsb' 8 3).toNat))

/-- What a setter of the field `mask`, with its lowest bit at `lsb` and its largest legal value `max`, does (R104): the
words that encode it, the new `cfg` by its bits, the response, and nothing else but what the accept step of every legal word
writes (`curOp` and the host's position; for OUT_OF_RANGE see notes/assumptions/10.md). -/
def setterClaim (op : BitVec 4) (mk : Nat → Instr) (max lsb : Nat) (mask : ConfigWord) : Prop :=
  encodesAs op true false (fun a _ => mk a) ∧
    ∀ (a : Nat) (s : State),
      (a ≤ max →
        exec (mk a) s = .next (answered op .ok ((s.cfg &&& ~~~mask) ||| 0x8000#16 ||| (BitVec.ofNat 16 a <<< lsb)) 0
          { s with cfg := (s.cfg &&& ~~~mask) ||| 0x8000#16 ||| (BitVec.ofNat 16 a <<< lsb) })) ∧
      (max < a → exec (mk a) s = .next (answered op .outOfRange 0 0 s))

/-- How a blocking acquisition of mode `m` and channel `c` starts (R171, R172). -/
def blockingStartClaim (op : BitVec 4) (i : Instr) (m : SensorMode) (c : BitVec 3) (s : State) : Prop :=
  (changeNeeded m c s →
    exec i s = .next { started op s with
      reqMode := m, reqChan := c, txWord := stagedBits m c s.cfg, phase := .discard, seq := .txBegin }) ∧
  (¬ changeNeeded m c s →
    exec i s = .next { started op s with
      reqMode := m, reqChan := c, seq := .wait, events := s.events ++ [waitEvent s.cfg] })

/-- How a non-blocking acquisition starts (R178; that NOT_READY writes `curOp`: notes/assumptions/10.md). -/
def nonBlockingStartClaim (op : BitVec 4) (i : Instr) (s : State) : Prop :=
  (s.hasDrdy = true ∧ s.ports.drdyN = false →
    exec i s = .next { started op s with txWord := s.cfg, phase := .nowait, seq := .txBegin }) ∧
  (¬ (s.hasDrdy = true ∧ s.ports.drdyN = false) →
    exec i s = .next (answered op .notReady 0 0 s))

/-- The end of the terminal frame of the command with opcode `op` (R146, R177): its response, `cfg` and `lastMode` kept. -/
def completionClaim (op : BitVec 4) (value : Sample → ConfigWord → Int) : Prop :=
  ∀ s : State, quiet s.ports → s.seq = .txEnd → s.curOp = op → s.phase ≠ .discard →
    (s.txFail = false → ∃ v : ScaledValue, v.toInt = value (s.rxBuf.extractLsb' 16 16) s.cfg ∧
      stepsTo s { s with
        seq := .idle, csN := true, events := s.events ++ [.busEnd, .csDeassert],
        rspValid := true, rspStatus := .ok, rspRaw := s.rxBuf.extractLsb' 16 16, rspValue := v }) ∧
    (s.txFail = true →
      stepsTo s { s with
        seq := .idle, csN := true, events := s.events ++ [.busEnd, .csDeassert],
        rspValid := true, rspStatus := .busError, rspRaw := 0, rspValue := 0 })

/-- The blocking acquisition a command starts: its opcode, the sensor mode and the channel (R180, R231, R233, R234). -/
def blockingRequest (i : Instr) (s : State) : Option (BitVec 4 × SensorMode × BitVec 3) :=
  match i with
  | .readAdc a => if a ≤ 7 then some (0x7, .adc, BitVec.ofNat 3 a) else none
  | .readMv a => if a ≤ 7 then some (0x8, .adc, BitVec.ofNat 3 a) else none
  | .readRaw =>
    match s.lastMode with
    | .adc => some (0xB, .adc, s.cfg.extractLsb' 1 3)
    | .temperature => some (0xB, .temperature, s.cfg.extractLsb' 1 3)
    | .uninitialized =>
      some (0xB, if s.cfg.getLsbD 11 then .temperature else .adc, s.cfg.extractLsb' 1 3)
  | .readTemp => some (0xC, .temperature, s.cfg.extractLsb' 1 3)
  | _ => none

/-- The commands without operands and their mnemonics, as R82 lists them. -/
def plainForms : List (String × Instr) :=
  [("INIT", .init), ("READ_ADC_NW", .readAdcNw), ("READ_MV_NW", .readMvNw), ("READ_RAW", .readRaw), ("READ_TEMP", .readTemp)]

/-- The commands with one `arg` operand and their mnemonics, as R82 lists them. -/
def argForms : List (String × (Nat → Instr)) :=
  [("SET_RATE", .setRate), ("SET_GAIN", .setGain), ("SET_MUX", .setMux), ("SET_OPMODE", .setOpmode),
    ("SET_PULLUP", .setPullup), ("READ_ADC", .readAdc), ("READ_MV", .readMv), ("LATENCY", .latency)]

end Sys2Proof.Machine
end

