-- ==== Sys2Proof/Certificates/Slice0/Obligations.lean ====
section
/-! DEFINITION. The statements for the provers. Each docstring names the rule of spec/ it formalises. A rule that the spec
marks [derived] is the spec's own inference: a statement that rests on one says so and has basis 'derived'. -/

open Sys2Proof Sys2Proof.Machine

/-! ## The codec (40_codec.md) -/

/-- The round-trip laws of the field codec (R102, the spec's own inference from R100 and R101). -/
def Obligations.FieldCodecRoundTrips : Prop :=
  (∀ f : Fields, decodeFields (encodeFields f) = (1, f)) ∧
  (∀ w : ConfigWord, (encodeFields (decodeFields w).2 = w ↔ w.getLsbD 15 = true) ∧
    (w.getLsbD 15 = false → encodeFields (decodeFields w).2 = w ||| 0x8000))

/-- R100: every field at its position, the reserved bit 1. -/
def Obligations.EncodePacksFieldsByPosition : Prop :=
  (∀ f : Fields, (encodeFields f).toNat =
    2 ^ 15 + f.noop.toNat * 2 ^ 13 + f.pullup.toNat * 2 ^ 12 + f.sensor.toNat * 2 ^ 11 + f.rate.toNat * 2 ^ 8 +
      f.opmode.toNat * 2 ^ 7 + f.gain.toNat * 2 ^ 4 + f.mux.toNat * 2 + f.start.toNat) ∧
  encodeFields { noop := 1, pullup := 1, sensor := 0, rate := 0, opmode := 1, gain := 7, mux := 0, start := 1 } = 0xB0F1

/-- R101: the reserved bit and every field are read from their bits, in every word. -/
def Obligations.DecodeReadsEveryBit : Prop :=
  (∀ w : ConfigWord,
    (decodeFields w).1.toNat = w.toNat / 2 ^ 15 ∧
    (decodeFields w).2.noop.toNat = w.toNat / 2 ^ 13 % 4 ∧
    (decodeFields w).2.pullup.toNat = w.toNat / 2 ^ 12 % 2 ∧
    (decodeFields w).2.sensor.toNat = w.toNat / 2 ^ 11 % 2 ∧
    (decodeFields w).2.rate.toNat = w.toNat / 2 ^ 8 % 8 ∧
    (decodeFields w).2.opmode.toNat = w.toNat / 2 ^ 7 % 2 ∧
    (decodeFields w).2.gain.toNat = w.toNat / 2 ^ 4 % 8 ∧
    (decodeFields w).2.mux.toNat = w.toNat / 2 % 8 ∧
    (decodeFields w).2.start.toNat = w.toNat % 2) ∧
  decodeFields 0xB0F9 =
    (1, { noop := 1, pullup := 1, sensor := 0, rate := 0, opmode := 1, gain := 7, mux := 4, start := 1 })

/-! ## The command word (30_encoding.md) -/

/-- Every well-formed command is read back from its word, with every operand (R71, R72, R73). -/
def Obligations.DecodeInvertsEncode : Prop :=
  ∀ i : Instr, i.wellFormed = true → decode (encode i) = .ok i

/-- Every word is either the word of exactly the command it decodes to, or illegal by R74 and rejected (R75, the spec's own
inference). -/
def Obligations.EveryWordIsOneCommandOrIllegal : Prop :=
  (∀ (w : CommandWord) (i : Instr), decode w = .ok i → i.wellFormed = true ∧ encode i = w ∧ ¬ illegalWord w) ∧
  (∀ w : CommandWord, ¬ illegalWord w → ∃ i, decode w = .ok i)

/-- R74: an illegal word is accepted, answered ILLEGAL, and changes nothing else. -/
def Obligations.IllegalWordAnswersIllegal : Prop :=
  ∀ (s : State) (w : CommandWord), s.seq = .idle → commands s.ports w → illegalWord w →
    stepsTo s { s with
      hostPos := s.hostPos + 1, rspValid := true, rspStatus := .illegal, rspRaw := 0, rspValue := 0 }

/-- A few words of the spec's own tables (R82, V39, V60) decode to the commands they stand for. -/
def Obligations.SampleWordsDecode : Prop :=
  decode 0x10000000 = .ok .init ∧ decode 0x20070000 = .ok (.setRate 7) ∧ decode 0x70040000 = .ok (.readAdc 4) ∧
  decode 0xA0000000 = .ok .readMvNw ∧ decode 0xD0080000 = .ok (.latency 8) ∧
  decode 0xE0024000 = .ok (.scaleMv 2 0x4000) ∧ decode 0xF0000190 = .ok (.scaleTemp 0x0190)

/-- Whatever the assembler accepts fits its command word, and an assembled text holds no illegal word (R82; what the model
reads as blanks and as a line is log entry 12). -/
def Obligations.AssembledCommandDecodesBack : Prop :=
  (∀ (mnemonic : String) (operands : List Int) (i : Instr), assemble mnemonic operands = some i →
    i.wellFormed = true ∧ decode (encode i) = .ok i) ∧
  (∀ (text : List Char) (ws : List CommandWord), assembleText text = some ws →
    ∀ w ∈ ws, ¬ illegalWord w ∧ ∃ i, decode w = .ok i ∧ encode i = w)

/-! ## The step, acceptance and reset -/

/-- A step in IDLE with a legal word presented is `exec` of the command, after which the environment goes on by one step;
`withFetchWord` presents a word so that the very next step is such a step (R220, R221; log entries 1 and 11). -/
def Obligations.StepRunsDecodedCommand : Prop :=
  (∀ (s : State) (w : CommandWord) (i : Instr), s.seq = .idle → commands s.ports w → decode w = .ok i →
    step s = match exec i s with
      | .next t => .next (passed t)
      | .fault f => .fault f
      | .refused r => .refused r) ∧
  (∀ (s : State) (w : Nat) (i : Instr), decodeTableWord 32 w = some i →
    step (s.withFetchWord 32 w) = match exec i (s.withFetchWord 32 w) with
      | .next t => .next (passed t)
      | .fault f => .fault f
      | .refused r => .refused r)

/-- R280: the reset step, in every state. -/
def Obligations.ResetStepSetsEveryElement : Prop :=
  ∀ s : State, s.ports.reset = true → ∃ t, step s = .next t ∧
    t.cfg = 0xB0F1 ∧ t.lastMode = .uninitialized ∧ t.seq = .idle ∧ t.phase = .final ∧ t.byteIdx = 0 ∧ t.txWord = 0 ∧
    t.rxBuf = 0 ∧ t.txFail = false ∧ t.curOp = 0 ∧ t.reqMode = .adc ∧ t.reqChan = 0 ∧ t.csN = true ∧
    t.rspValid = false ∧ t.rspStatus = .ok ∧ t.rspRaw = 0 ∧ t.rspValue = 0

/-- R282: a reset cuts an open frame without `BusEnd()`, the command in flight gets no response, and a later expiry is
ignored. That the history and the host's position stay over a reset is the model's choice (log entries 3 and 4). -/
def Obligations.ResetCutsTheSequence : Prop :=
  ∀ (s : State) (p q : Ports) (rest : List Ports), s.env = p :: q :: rest → p.reset = true → quiet q →
    q.cmdValid = false → ∃ t, Host.Core.run core 2 s = .next t ∧
      t.seq = .idle ∧ t.csN = true ∧ t.rspValid = false ∧ t.lastMode = .uninitialized ∧ t.hostPos = s.hostPos ∧
      t.events = s.events ++ (if s.csN = true then [] else [.csDeassert]) ∧ t.env = rest

/-- R220: a command is accepted exactly in a step with `cmd_valid = 1` and `seq = IDLE`; the host's position advances by one
per accepted command, and no other step takes one. The model's choices: which words that end in an error write `curOp` (log
entry 10), and that a hold is a step with a next state (log entry 5). -/
def Obligations.AcceptsExactlyWhenIdleAndValid : Prop :=
  ∀ s : State, quiet s.ports →
    (s.seq = .idle ∧ s.ports.cmdValid = true → ∃ t, step s = .next t ∧ t.hostPos = s.hostPos + 1 ∧
      t.curOp = opAfterAccept s.ports.cmdWord s) ∧
    (¬ (s.seq = .idle ∧ s.ports.cmdValid = true) → ∃ t, step s = .next t ∧ t.hostPos = s.hostPos ∧ t.curOp = s.curOp)

/-- The model's hold steps: while the input that a sequencer state needs does not come, the block holds (R176, R220, R293; log entry 5). -/
def Obligations.BlockHoldsWithoutItsInput : Prop :=
  ∀ s : State, quiet s.ports →
    (s.seq = .idle ∧ s.ports.cmdValid = false) ∨ (s.seq = .txXfer ∧ s.ports.xfer = .pending) ∨
      (s.seq = .wait ∧ s.ports.timerExpired = false) →
    stepsTo s s

/-- No state and no input stops the block (R255). That a state which waits for its input in IDLE, TX_XFER or WAIT answers a next
state is the model's choice (log entry 5): R176 and R293 say that the block has no step then. -/
def Obligations.EveryStepAnswersNext : Prop :=
  ∀ s : State, ∃ t, step s = .next t

/-- Every step uses up exactly the port levels it was presented, whatever they were (the model's own fields `env` and `tick`,
log entry 1; no rule of the spec). -/
def Obligations.EveryStepUsesUpItsPorts : Prop :=
  ∀ s t : State, step s = .next t → t.env = s.env.tail ∧ t.tick = s.tick + 1

/-- The integrator's parameters are fixed: no step writes them (R9; log entry 2). -/
def Obligations.ParametersNeverChange : Prop :=
  ∀ s t : State, step s = .next t → t.hasDrdy = s.hasDrdy ∧ t.sclkHz = s.sclkHz

/-! ## INIT and the setters -/

/-- R230. -/
def Obligations.InitSetsDefaults : Prop :=
  encodesAs 0x1 false false (fun _ _ => .init) ∧
  ∀ s : State, exec .init s = .next (answered 0x1 .ok 0xB0F1 0 { s with cfg := 0xB0F1, lastMode := .uninitialized })

/-- R105. That `curOp` is written with an OUT_OF_RANGE answer too is the model's reading (log entry 10). -/
def Obligations.SetRateWritesItsField : Prop := setterClaim 0x2 .setRate 7 8 0x0700

/-- R106. That `curOp` is written with an OUT_OF_RANGE answer too is the model's reading (log entry 10). -/
def Obligations.SetGainWritesItsField : Prop := setterClaim 0x3 .setGain 7 4 0x0070

/-- R107. That `curOp` is written with an OUT_OF_RANGE answer too is the model's reading (log entry 10). -/
def Obligations.SetMuxWritesItsField : Prop := setterClaim 0x4 .setMux 7 1 0x000E

/-- R108. That `curOp` is written with an OUT_OF_RANGE answer too is the model's reading (log entry 10). -/
def Obligations.SetOpmodeWritesItsField : Prop := setterClaim 0x5 .setOpmode 1 7 0x0080

/-- R109. That `curOp` is written with an OUT_OF_RANGE answer too is the model's reading (log entry 10). -/
def Obligations.SetPullupWritesItsField : Prop := setterClaim 0x6 .setPullup 1 12 0x1000

/-- R104: a setter changes its own field and no other, in one step, with no frame and without touching `lastMode`; above the
field's largest value `cfg` and `lastMode` stay and the response is (OUT_OF_RANGE, 0, 0). -/
def Obligations.SettersKeepEveryOtherField : Prop :=
  ∀ (mk : Nat → Instr) (max : Nat) (upd : Nat → Fields → Fields),
    (mk, max, upd) ∈ ([(.setRate, 7, fun a f => { f with rate := BitVec.ofNat 3 a }),
      (.setGain, 7, fun a f => { f with gain := BitVec.ofNat 3 a }),
      (.setMux, 7, fun a f => { f with mux := BitVec.ofNat 3 a }),
      (.setOpmode, 1, fun a f => { f with opmode := BitVec.ofNat 1 a }),
      (.setPullup, 1, fun a f => { f with pullup := BitVec.ofNat 1 a })] :
        List ((Nat → Instr) × Nat × (Nat → Fields → Fields))) →
    ∀ (a : Nat) (s : State), ∃ t, exec (mk a) s = .next t ∧
      t.lastMode = s.lastMode ∧ t.seq = s.seq ∧ t.events = s.events ∧ t.csN = s.csN ∧ t.txWord = s.txWord ∧
      t.rspValid = true ∧ t.rspValue = 0 ∧
      (a ≤ max → decodeFields t.cfg = (1, upd a (decodeFields s.cfg).2) ∧ t.rspStatus = .ok ∧ t.rspRaw = t.cfg) ∧
      (max < a → t.cfg = s.cfg ∧ t.rspStatus = .outOfRange ∧ t.rspRaw = 0)

/-! ## The timing table and the scaler -/

/-- R130: the table of worst-case conversion times; every entry fits in 7 bits. That the table is strictly
decreasing is the spec's own inference from it. -/
def Obligations.LatencyTableAsPrinted : Prop :=
  ∀ r : BitVec 3, (lat r).toNat = latMs r.toNat ∧ (lat r).toNat < 2 ^ 7 ∧
    ∀ q : BitVec 3, r.toNat < q.toNat → (lat q).toNat < (lat r).toNat

/-- R131. That `curOp` is written (R221), with an OUT_OF_RANGE answer too, is the model's reading (log entry 10). -/
def Obligations.LatencyReportsTheTable : Prop :=
  encodesAs 0xD true false (fun a _ => .latency a) ∧
  ∀ (a : Nat) (s : State),
    (a ≤ 7 → exec (.latency a) s =
      .next (answered 0xD .ok (BitVec.ofNat 16 (latMs a)) (BitVec.ofNat 21 (latMs a)) s)) ∧
    (7 < a → exec (.latency a) s = .next (answered 0xD .outOfRange 0 0 s))

/-- R203, with the value of R200. That `curOp` is written with an OUT_OF_RANGE answer too is the model's reading (log
entry 10). -/
def Obligations.ScaleMvScalesItsCode : Prop :=
  encodesAs 0xE true true .scaleMv ∧
  ∀ (a : Nat) (d : Sample) (s : State),
    (a ≤ 7 → ∃ v : ScaledValue, v.toInt = d.toInt * scaleFactor a ∧
      exec (.scaleMv a d) s = .next (answered 0xE .ok d v s)) ∧
    (7 < a → exec (.scaleMv a d) s = .next (answered 0xE .outOfRange 0 0 s))

/-- R204, with the value of R202. -/
def Obligations.ScaleTempExtendsItsCode : Prop :=
  encodesAs 0xF false true (fun _ d => .scaleTemp d) ∧
  ∀ (d : Sample) (s : State), ∃ v : ScaledValue, v.toInt = d.toInt ∧
    exec (.scaleTemp d) s = .next (answered 0xF .ok d v s)

/-- The Q7 value is the source's formula exactly, with no overflow of 21 bits (R201, the spec's own inference from R200). -/
def Obligations.MillivoltScalingIsExact : Prop :=
  ∀ (code : Sample) (g : BitVec 3),
    (scaleMvQ7 code g).toInt * 32768 = code.toInt * fullScaleMv g.toNat * 128 ∧
    (-786432 : Int) ≤ (scaleMvQ7 code g).toInt ∧ (scaleMvQ7 code g).toInt ≤ 786408

/-- R202: the Q3 value is the signed code. -/
def Obligations.TemperatureScalingIsTheSignedCode : Prop :=
  ∀ code : Sample, (scaleTempQ3 code).toInt = code.toInt ∧
    (-32768 : Int) ≤ (scaleTempQ3 code).toInt ∧ (scaleTempQ3 code).toInt ≤ 32767

/-- R206: gain codes 5, 6 and 7 give equal results for every code. -/
def Obligations.GainCodesFiveToSevenAlias : Prop :=
  ∀ code : Sample, scaleMvQ7 code 5 = scaleMvQ7 code 6 ∧ scaleMvQ7 code 6 = scaleMvQ7 code 7 ∧
    (scaleMvQ7 code 5).toInt = code.toInt

/-! ## The acquisition commands -/

/-- R180: encoding, range check, the start of the acquisition by R171 and R172, and the response by R177. `curOp` stays with an
OUT_OF_RANGE answer, as R180 and decision D27 say, against R32 and R221 (log entry 10). -/
def Obligations.ReadAdcStartsAndDelivers : Prop :=
  encodesAs 0x7 true false (fun a _ => .readAdc a) ∧
  (∀ (a : Nat) (s : State), (a ≤ 7 → blockingStartClaim 0x7 (.readAdc a) .adc (BitVec.ofNat 3 a) s) ∧
    (7 < a → exec (.readAdc a) s = .next (answered s.curOp .outOfRange 0 0 s))) ∧
  completionClaim 0x7 (fun _ _ => 0)

/-- R231, as R180: `curOp` stays with an OUT_OF_RANGE answer, against R32 and R221 (log entry 10). -/
def Obligations.ReadMvStartsAndDelivers : Prop :=
  encodesAs 0x8 true false (fun a _ => .readMv a) ∧
  (∀ (a : Nat) (s : State), (a ≤ 7 → blockingStartClaim 0x8 (.readMv a) .adc (BitVec.ofNat 3 a) s) ∧
    (7 < a → exec (.readMv a) s = .next (answered s.curOp .outOfRange 0 0 s))) ∧
  completionClaim 0x8 (fun sample cfg => sample.toInt * scaleFactor (cfg.extractLsb' 4 3).toNat)

/-- R233: the last mode, or the one `cfg.sensor` encodes while `lastMode` is UNINITIALIZED, on the channel held. -/
def Obligations.ReadRawStartsAndDelivers : Prop :=
  encodesAs 0xB false false (fun _ _ => .readRaw) ∧
  (∀ s : State,
    (s.lastMode = .adc → blockingStartClaim 0xB .readRaw .adc (s.cfg.extractLsb' 1 3) s) ∧
    (s.lastMode = .temperature → blockingStartClaim 0xB .readRaw .temperature (s.cfg.extractLsb' 1 3) s) ∧
    (s.lastMode = .uninitialized →
      blockingStartClaim 0xB .readRaw (if s.cfg.getLsbD 11 = true then .temperature else .adc)
        (s.cfg.extractLsb' 1 3) s)) ∧
  completionClaim 0xB (fun _ _ => 0)

/-- R234: temperature mode, the channel held and not compared. -/
def Obligations.ReadTempStartsAndDelivers : Prop :=
  encodesAs 0xC false false (fun _ _ => .readTemp) ∧
  (∀ s : State, blockingStartClaim 0xC .readTemp .temperature (s.cfg.extractLsb' 1 3) s) ∧
  completionClaim 0xC (fun sample _ => sample.toInt)

/-- R181 and R178. That `curOp` is written with a NOT_READY answer too is the model's deduction (log entry 10). -/
def Obligations.ReadAdcNwStartsAndDelivers : Prop :=
  encodesAs 0x9 false false (fun _ _ => .readAdcNw) ∧
  (∀ s : State, nonBlockingStartClaim 0x9 .readAdcNw s) ∧ completionClaim 0x9 (fun _ _ => 0)

/-- R232 and R178: the millivolt formula whatever `cfg.sensor` holds. That `curOp` is written with a NOT_READY answer too is
the model's deduction (log entry 10). -/
def Obligations.ReadMvNwStartsAndDelivers : Prop :=
  encodesAs 0xA false false (fun _ _ => .readMvNw) ∧
  (∀ s : State, nonBlockingStartClaim 0xA .readMvNw s) ∧
  completionClaim 0xA (fun sample cfg => sample.toInt * scaleFactor (cfg.extractLsb' 4 3).toNat)

/-! ## The micro-steps -/

/-- R141. -/
def Obligations.TxBeginOpensTheFrame : Prop :=
  ∀ s : State, quiet s.ports → s.seq = .txBegin →
    stepsTo s { s with
      csN := false, byteIdx := 0, txFail := false, rxBuf := 0, seq := .txXfer,
      events := s.events ++ [.csAssert, .busBegin { clockHz := s.sclkHz, msbFirst := true, clockPolarity := 0, clockPhase := 1 }] }

/-- R142: the byte sent (the history records the call in the step that answers it, log entry 3), the place of the byte received, and what comes next; everything else stays. -/
def Obligations.XferStoresTheByteReceived : Prop :=
  ∀ (s : State) (b : Byte), answers s.ports b → s.seq = .txXfer → ∃ t, step s = .next t ∧
    t.block = { s with rxBuf := t.rxBuf, byteIdx := t.byteIdx, seq := t.seq, events := t.events }.block ∧
    t.events = s.events ++ [.busXfer (if s.byteIdx = 0 ∨ s.byteIdx = 2 then s.txWord.extractLsb' 8 8 else s.txWord.extractLsb' 0 8)] ∧
    (∀ j : Fin 4, t.rxBuf.extractLsb' (24 - 8 * j.val) 8 =
      if j = s.byteIdx then b else s.rxBuf.extractLsb' (24 - 8 * j.val) 8) ∧
    (s.byteIdx.val < 3 → t.byteIdx.val = s.byteIdx.val + 1 ∧ t.seq = .txXfer) ∧
    (s.byteIdx.val = 3 → t.byteIdx = s.byteIdx ∧ t.seq = .txEnd)

/-- R143: the frame ends at once, and the rest of the state stays but for the history, which records the failed transfer in
this step: the model's choice (log entry 3). -/
def Obligations.XferFailureEndsTheFrame : Prop :=
  ∀ s : State, quiet s.ports → s.ports.xfer = .fail → s.seq = .txXfer →
    stepsTo s { s with
      txFail := true, seq := .txEnd,
      events := s.events ++ [.busXfer ((frameBytes s.txWord).getD s.byteIdx.val 0)] }

/-- R146 with R177 and R174: how a frame ends, in its three ways. -/
def Obligations.FrameEndFailsCommitsOrDelivers : Prop :=
  ∀ s : State, quiet s.ports → s.seq = .txEnd →
    (s.txFail = true → stepsTo s { s with
      csN := true, events := s.events ++ [.busEnd, .csDeassert], seq := .idle,
      rspValid := true, rspStatus := .busError, rspRaw := 0, rspValue := 0 }) ∧
    (s.txFail = false → s.phase = .discard → stepsTo s { s with
      csN := true, events := s.events ++ [.busEnd, .csDeassert, waitEvent s.txWord], seq := .wait,
      cfg := s.txWord, lastMode := match s.reqMode with | .adc => .adc | .temperature => .temperature }) ∧
    (s.txFail = false → s.phase ≠ .discard → ∀ v, deliveredInt s.curOp (s.rxBuf.extractLsb' 16 16) s.cfg = some v →
      ∃ x : ScaledValue, x.toInt = v ∧ stepsTo s { s with
        csN := true, events := s.events ++ [.busEnd, .csDeassert], seq := .idle,
        rspValid := true, rspStatus := .ok, rspRaw := s.rxBuf.extractLsb' 16 16, rspValue := x })

/-- R176: the final frame follows the timer's expiry; without it the block holds. That a hold is a step in which nothing
changes is the model's choice (log entry 5). -/
def Obligations.WaitEndsAtTheExpiry : Prop :=
  ∀ s : State, quiet s.ports → s.seq = .wait →
    (s.ports.timerExpired = true →
      stepsTo s { s with txWord := s.cfg, phase := .final, seq := .txBegin }) ∧
    (s.ports.timerExpired = false → stepsTo s s)

/-! ## Whole frames and whole commands -/

/-- A frame whose four transfers are answered runs exactly the events of R148 and collects the bytes in order (R148, the
spec's own inference; R54, R55). -/
def Obligations.AnsweredFrameRunsToItsEnd : Prop :=
  ∀ (s : State) (p0 p1 p2 p3 p4 p5 : Ports) (rest : List Ports) (b0 b1 b2 b3 : Byte),
    s.seq = .txBegin → s.env = p0 :: p1 :: p2 :: p3 :: p4 :: p5 :: rest →
    quiet p0 → answers p1 b0 → answers p2 b1 → answers p3 b2 → answers p4 b3 → quiet p5 →
    ∃ t, Host.Core.run core 6 s = .next t ∧ t.csN = true ∧ t.txFail = false ∧ t.byteIdx = 3 ∧
      t.rxBuf.toNat = b0.toNat * 2 ^ 24 + b1.toNat * 2 ^ 16 + b2.toNat * 2 ^ 8 + b3.toNat ∧
      t.events = s.events ++ frameEvents (busCfg s) s.txWord ++
        (if s.phase = .discard then [waitEvent s.txWord] else []) ∧
      t.seq = (if s.phase = .discard then .wait else .idle)

/-- A frame with a failed transfer is the same sequence cut after it, closed all the same, and answered BUS_ERROR, with
`cfg` and `lastMode` as they were (R145, R148, R177; R148 is the spec's own inference). -/
def Obligations.FailedFrameIsCutAndClosed : Prop :=
  ∀ (s : State) (p0 pf pe : Ports) (ps rest : List Ports) (bs : List Byte),
    s.seq = .txBegin → s.env = p0 :: (ps ++ pf :: pe :: rest) → List.Forall₂ answers ps bs → bs.length ≤ 3 →
    quiet p0 → quiet pf → pf.xfer = .fail → quiet pe →
    ∃ t, Host.Core.run core (bs.length + 3) s = .next t ∧
      t.seq = .idle ∧ t.csN = true ∧ t.txFail = true ∧ t.byteIdx.val = bs.length ∧
      t.rspValid = true ∧ t.rspStatus = .busError ∧ t.rspRaw = 0 ∧ t.rspValue = 0 ∧
      t.cfg = s.cfg ∧ t.lastMode = s.lastMode ∧
      t.events = s.events ++ [.csAssert, .busBegin (busCfg s)] ++
        ((frameBytes s.txWord).take (bs.length + 1)).map Event.busXfer ++ [.busEnd, .csDeassert]

/-- A blocking acquisition that changes mode or channel runs two frames of the staged word with one wait between them and
delivers the sample of the second; the bytes of the first are in no register that the host reads (R172 to R177, R182). -/
def Obligations.BlockingReadWithDiscardDelivers : Prop :=
  ∀ (s : State) (i : Instr) (op : BitVec 4) (m : SensorMode) (c : BitVec 3) (pa pw : Ports)
    (d0 d1 d2 d3 d4 d5 f0 f1 f2 f3 f4 f5 : Ports) (rest : List Ports) (x0 x1 x2 x3 b0 b1 b2 b3 : Byte),
    s.seq = .idle → blockingRequest i s = some (op, m, c) → changeNeeded m c s →
    s.env = pa :: d0 :: d1 :: d2 :: d3 :: d4 :: d5 :: pw :: f0 :: f1 :: f2 :: f3 :: f4 :: f5 :: rest →
    commands pa (encode i) →
    quiet d0 → answers d1 x0 → answers d2 x1 → answers d3 x2 → answers d4 x3 → quiet d5 →
    quiet pw → pw.timerExpired = true →
    quiet f0 → answers f1 b0 → answers f2 b1 → answers f3 b2 → answers f4 b3 → quiet f5 →
    ∃ t, Host.Core.run core 14 s = .next t ∧
      t.seq = .idle ∧ t.csN = true ∧ t.rspValid = true ∧ t.rspStatus = .ok ∧
      t.rspRaw.toNat = b0.toNat * 2 ^ 8 + b1.toNat ∧
      deliveredInt op t.rspRaw (stagedBits m c s.cfg) = some t.rspValue.toInt ∧
      t.cfg = stagedBits m c s.cfg ∧ t.lastMode = m.asLast ∧ t.hostPos = s.hostPos + 1 ∧ t.env = rest ∧
      t.events = s.events ++ frameEvents (busCfg s) (stagedBits m c s.cfg) ++ [waitEvent (stagedBits m c s.cfg)] ++
        frameEvents (busCfg s) (stagedBits m c s.cfg)

/-- A blocking acquisition on the mode and channel held waits, runs one frame of `cfg` and delivers its sample; `cfg` and
`lastMode` stay (R172, R175 to R177, R182). -/
def Obligations.BlockingReadWithoutDiscardDelivers : Prop :=
  ∀ (s : State) (i : Instr) (op : BitVec 4) (m : SensorMode) (c : BitVec 3) (pa pw : Ports)
    (f0 f1 f2 f3 f4 f5 : Ports) (rest : List Ports) (b0 b1 b2 b3 : Byte),
    s.seq = .idle → blockingRequest i s = some (op, m, c) → ¬ changeNeeded m c s →
    s.env = pa :: pw :: f0 :: f1 :: f2 :: f3 :: f4 :: f5 :: rest →
    commands pa (encode i) → quiet pw → pw.timerExpired = true →
    quiet f0 → answers f1 b0 → answers f2 b1 → answers f3 b2 → answers f4 b3 → quiet f5 →
    ∃ t, Host.Core.run core 8 s = .next t ∧
      t.seq = .idle ∧ t.csN = true ∧ t.rspValid = true ∧ t.rspStatus = .ok ∧
      t.rspRaw.toNat = b0.toNat * 2 ^ 8 + b1.toNat ∧
      deliveredInt op t.rspRaw s.cfg = some t.rspValue.toInt ∧
      t.cfg = s.cfg ∧ t.lastMode = s.lastMode ∧ t.hostPos = s.hostPos + 1 ∧ t.env = rest ∧
      t.events = s.events ++ [waitEvent s.cfg] ++ frameEvents (busCfg s) s.cfg

/-- A non-blocking read with the line asserted runs one frame of `cfg` with no wait and delivers its sample; `cfg` and
`lastMode` stay (R177, R178, R181, R182, R232). -/
def Obligations.NonBlockingReadDelivers : Prop :=
  ∀ (s : State) (i : Instr) (op : BitVec 4) (pa f0 f1 f2 f3 f4 f5 : Ports) (rest : List Ports) (b0 b1 b2 b3 : Byte),
    (i, op) ∈ [(Instr.readAdcNw, 0x9#4), (Instr.readMvNw, 0xA#4)] → s.seq = .idle → s.hasDrdy = true →
    s.env = pa :: f0 :: f1 :: f2 :: f3 :: f4 :: f5 :: rest → commands pa (encode i) → pa.drdyN = false →
    quiet f0 → answers f1 b0 → answers f2 b1 → answers f3 b2 → answers f4 b3 → quiet f5 →
    ∃ t, Host.Core.run core 7 s = .next t ∧
      t.seq = .idle ∧ t.csN = true ∧ t.rspValid = true ∧ t.rspStatus = .ok ∧
      t.rspRaw.toNat = b0.toNat * 2 ^ 8 + b1.toNat ∧
      deliveredInt op t.rspRaw s.cfg = some t.rspValue.toInt ∧
      t.cfg = s.cfg ∧ t.lastMode = s.lastMode ∧ t.hostPos = s.hostPos + 1 ∧ t.env = rest ∧
      t.events = s.events ++ frameEvents (busCfg s) s.cfg

/-! ## Invariants -/

/-- The state after reset is a good one, with an empty history. -/
def Obligations.ResetStateIsGood : Prop :=
  State.reset.Inv ∧ State.reset.HistoryFramed

/-- Every step keeps the invariant, from every good state, whatever the ports present (R22 to R25, R29, R33, R222, R223). -/
def Obligations.EveryStepKeepsTheInvariant : Prop :=
  ∀ s t : State, s.Inv → step s = .next t → t.Inv

/-- Every step but a reset keeps the history a sequence of well-formed frames of `txWord`'s bytes, never overlapping (R147,
R148, the spec's own inference; a reset cuts a frame, R282). -/
def Obligations.EveryStepKeepsTheHistoryFramed : Prop :=
  ∀ s t : State, s.HistoryFramed → quiet s.ports → step s = .next t → t.HistoryFramed

/-! ## Rules over every command and every step -/

/-- `lastMode` changes only by INIT, by the commit of a successful discard frame, and by reset (R23, R174, R280). -/
def Obligations.LastModeHasNoOtherWriter : Prop :=
  ∀ s t : State, step s = .next t → t.lastMode ≠ s.lastMode →
    s.ports.reset = true ∨
    (s.seq = .idle ∧ commands s.ports 0x10000000 ∧ t.lastMode = .uninitialized) ∨
    (s.seq = .txEnd ∧ s.phase = .discard ∧ s.txFail = false ∧ t.lastMode = s.reqMode.asLast ∧ t.cfg = s.txWord)

/-- `cfg.sensor`, `noop` and `start` have no setter: in a good state `sensor` changes only by INIT, a commit or reset, and
`noop` and `start` never change (R110, R174). -/
def Obligations.SensorNoopStartHaveNoSetter : Prop :=
  ∀ s t : State, s.Inv → step s = .next t →
    t.cfg.extractLsb' 13 2 = s.cfg.extractLsb' 13 2 ∧ t.cfg.getLsbD 0 = s.cfg.getLsbD 0 ∧
    (t.cfg.getLsbD 11 ≠ s.cfg.getLsbD 11 →
      s.ports.reset = true ∨ (s.seq = .idle ∧ commands s.ports 0x10000000) ∨
      (s.seq = .txEnd ∧ s.phase = .discard ∧ s.txFail = false))

/-- A frame is begun only from IDLE or WAIT, never while the chip-select is asserted (R147). -/
def Obligations.FramesBeginOnlyFromIdleOrWait : Prop :=
  ∀ s t : State, s.Inv → step s = .next t → t.seq = .txBegin →
    (s.seq = .idle ∨ s.seq = .wait) ∧ s.csN = true ∧ t.csN = true

/-- Which ports a step reads (R259, the spec's own inference; R149): two presentations that agree on them give the same step. -/
def Obligations.StepReadsOnlyThePortsOfItsState : Prop :=
  ∀ (s : State) (p q : Ports) (rest : List Ports), p.reset = q.reset →
    (p.reset = true ∨ s.seq = .txBegin ∨ s.seq = .txEnd ∨
      (s.seq = .txXfer ∧ p.xfer = q.xfer) ∨
      (s.seq = .wait ∧ p.timerExpired = q.timerExpired) ∨
      (s.seq = .idle ∧ p.cmdValid = false ∧ q.cmdValid = false) ∨
      (s.seq = .idle ∧ p.cmdValid = q.cmdValid ∧ p.cmdWord = q.cmdWord ∧
        (p.drdyN = q.drdyN ∨ (p.cmdWord ≠ 0x90000000 ∧ p.cmdWord ≠ 0xA0000000)))) →
    step { s with env := p :: rest } = step { s with env := q :: rest }

/-- Every error is precise (R252, the spec's own inference): a command answered with an error in its accept step changes
nothing but the response registers, and `curOp` of a legal word other than READ_ADC and READ_MV, which takes the opcode (the
model's reading, log entry 10); it stays for an illegal word (R32, R74) and for READ_ADC and READ_MV (R180, R231, D27). -/
def Obligations.AcceptStepErrorsArePrecise : Prop :=
  ∀ s t : State, s.seq = .idle → quiet s.ports → s.ports.cmdValid = true → step s = .next t → t.seq = .idle →
    t.rspStatus ≠ .ok →
    t.block = { s with
      hostPos := s.hostPos + 1
      curOp := opAfterAccept s.ports.cmdWord s
      rspValid := true
      rspStatus := t.rspStatus
      rspRaw := 0
      rspValue := 0 }.block

/-- A response is held until the next accept step (R223, the spec's own inference). -/
def Obligations.ResponseHeldUntilTheNextAccept : Prop :=
  ∀ s t : State, s.Inv → s.rspValid = true → quiet s.ports → s.ports.cmdValid = false → step s = .next t →
    t.seq = .idle ∧ t.rspValid = true ∧ t.rspStatus = s.rspStatus ∧ t.rspRaw = s.rspRaw ∧ t.rspValue = s.rspValue

/-- From Pending the block stays Pending, begins the final frame, or answers BUS_ERROR; a result becomes Ready only at the
end of a final or non-blocking frame (R170). -/
def Obligations.TrustedResultOnlyFromATerminalFrame : Prop :=
  ∀ s t : State, s.Inv → quiet s.ports → step s = .next t →
    (s.isPending = true → t.isPending = true ∨ (t.seq = .txBegin ∧ t.phase = .final) ∨
      (t.seq = .idle ∧ t.rspValid = true ∧ t.rspStatus = .busError)) ∧
    (t.isReady = true → s.isReady = true ∨ (s.seq = .txEnd ∧ s.phase ≠ .discard ∧ s.txFail = false))

/-- The setter hazard (R285, the spec's own inference): SET_MUX c and then READ_ADC c with `lastMode = ADC` runs no discard
frame. -/
def Obligations.SetMuxThenReadRunsNoDiscard : Prop :=
  ∀ (s : State) (c : Nat) (p q : Ports) (rest : List Ports), c ≤ 7 → s.seq = .idle → s.lastMode = .adc →
    s.env = p :: q :: rest → commands p (encode (.setMux c)) → commands q (encode (.readAdc c)) →
    ∃ t, Host.Core.run core 2 s = .next t ∧ t.seq = .wait ∧ t.csN = s.csN ∧
      t.cfg = (s.cfg &&& ~~~0x000E#16) ||| 0x8000#16 ||| (BitVec.ofNat 16 c <<< 1) ∧
      t.events = s.events ++ [waitEvent s.cfg]

/-- The failed-frame hazard (R287, the spec's own inference): after a discard frame that failed, on whichever of its four
transfers, the same blocking command is judged a change again and pushes the same word in a discard frame. -/
def Obligations.FailedDiscardIsRepeated : Prop :=
  ∀ (s : State) (i : Instr) (op : BitVec 4) (m : SensorMode) (c : BitVec 3) (p0 p1 pf pe p4 : Ports) (ps rest : List Ports)
    (bs : List Byte),
    s.seq = .idle → blockingRequest i s = some (op, m, c) → changeNeeded m c s →
    s.env = p0 :: p1 :: (ps ++ pf :: pe :: p4 :: rest) → commands p0 (encode i) → quiet p1 →
    List.Forall₂ answers ps bs → bs.length ≤ 3 → quiet pf → pf.xfer = .fail → quiet pe → commands p4 (encode i) →
    ∃ t, Host.Core.run core (bs.length + 5) s = .next t ∧ t.cfg = s.cfg ∧ t.lastMode = s.lastMode ∧
      t.seq = .txBegin ∧ t.phase = .discard ∧ t.txWord = stagedBits m c s.cfg ∧ t.curOp = op ∧ t.reqMode = m ∧
      t.reqChan = c ∧ t.hostPos = s.hostPos + 2 ∧ t.env = rest

/-! ## The assembler's forms and the output ports -/

/-- R82, form by form: which command each mnemonic gives for its operands, that an operand outside the ranges is rejected, and that
a comment changes nothing of its line. That another mnemonic and another number of operands are rejected is the model's choice
(log entry 12). -/
def Obligations.AssemblerFollowsItsForms : Prop :=
  (∀ (mn : String) (i : Instr), (mn, i) ∈ plainForms → ∀ ns : List Int,
    assemble mn ns = if ns = [] then some i else none) ∧
  (∀ (mn : String) (mk : Nat → Instr), (mn, mk) ∈ argForms →
    (∀ a : Int, (0 ≤ a ∧ a ≤ 255 → assemble mn [a] = some (mk a.toNat)) ∧ (a < 0 ∨ 255 < a → assemble mn [a] = none)) ∧
    ∀ ns : List Int, ns.length ≠ 1 → assemble mn ns = none) ∧
  ((∀ a d : Int, (0 ≤ a ∧ a ≤ 255 ∧ -32768 ≤ d ∧ d ≤ 65535 →
      assemble "SCALE_MV" [a, d] = some (.scaleMv a.toNat (BitVec.ofInt 16 d))) ∧
    (a < 0 ∨ 255 < a ∨ d < -32768 ∨ 65535 < d → assemble "SCALE_MV" [a, d] = none)) ∧
    ∀ ns : List Int, ns.length ≠ 2 → assemble "SCALE_MV" ns = none) ∧
  ((∀ d : Int, (-32768 ≤ d ∧ d ≤ 65535 → assemble "SCALE_TEMP" [d] = some (.scaleTemp (BitVec.ofInt 16 d))) ∧
    (d < -32768 ∨ 65535 < d → assemble "SCALE_TEMP" [d] = none)) ∧
    ∀ ns : List Int, ns.length ≠ 1 → assemble "SCALE_TEMP" ns = none) ∧
  (∀ (mn : String) (ns : List Int),
    mn ∉ plainForms.map Prod.fst ++ argForms.map Prod.fst ++ ["SCALE_MV", "SCALE_TEMP"] → assemble mn ns = none) ∧
  (∀ line comment : List Char, ';' ∉ line → assembleLine (line ++ ';' :: comment) = assembleLine line)

/-- The output ports computed from state: `cmd_ready` and `cfg_q` (R35), the codes of `last_mode_q` (R23) and of `rsp_status`
(R250). That no other code is ever shown rests on the model's types (log entry 8). -/
def Obligations.OutputPortsShowTheState : Prop :=
  ∀ s : State,
    (s.cmdReady = true ↔ s.seq = .idle) ∧ s.cfgQ = s.cfg ∧
    (s.lastModeQ = 0b00 ↔ s.lastMode = .adc) ∧ (s.lastModeQ = 0b01 ↔ s.lastMode = .temperature) ∧
    (s.lastModeQ = 0b10 ↔ s.lastMode = .uninitialized) ∧ s.lastModeQ ≠ 0b11 ∧
    (s.statusBits = 0 ↔ s.rspStatus = .ok) ∧ (s.statusBits = 1 ↔ s.rspStatus = .outOfRange) ∧
    (s.statusBits = 2 ↔ s.rspStatus = .busError) ∧ (s.statusBits = 3 ↔ s.rspStatus = .notReady) ∧
    (s.statusBits = 4 ↔ s.rspStatus = .illegal) ∧ s.statusBits.toNat ≤ 4
end

