-- ==== Sys2Proof/Laws/Codec.lean ====
section
/-! SUPPORT. The field views of an encoded ConfigWord (spec/40_codec.md R100, R103): one lemma per field. -/

namespace Sys2Proof.Machine

/-- The reserved bit of an encoded word is 1 (R100). -/
@[simp] theorem encodeFields_reserved (f : Fields) : (encodeFields f).getLsbD 15 = true := by
  simp [encodeFields]

@[simp] theorem encodeFields_noop (f : Fields) : (encodeFields f).extractLsb' 13 2 = f.noop := by
  apply BitVec.eq_of_getLsbD_eq
  intro i hi
  interval_cases i <;> simp [encodeFields]

@[simp] theorem encodeFields_pullup (f : Fields) : (encodeFields f).extractLsb' 12 1 = f.pullup := by
  apply BitVec.eq_of_getLsbD_eq
  intro i hi
  interval_cases i
  simp [encodeFields]

@[simp] theorem encodeFields_sensor (f : Fields) : (encodeFields f).extractLsb' 11 1 = f.sensor := by
  apply BitVec.eq_of_getLsbD_eq
  intro i hi
  interval_cases i
  simp [encodeFields]

@[simp] theorem encodeFields_rate (f : Fields) : (encodeFields f).extractLsb' 8 3 = f.rate := by
  apply BitVec.eq_of_getLsbD_eq
  intro i hi
  interval_cases i <;> simp [encodeFields]

@[simp] theorem encodeFields_opmode (f : Fields) : (encodeFields f).extractLsb' 7 1 = f.opmode := by
  apply BitVec.eq_of_getLsbD_eq
  intro i hi
  interval_cases i
  simp [encodeFields]

@[simp] theorem encodeFields_gain (f : Fields) : (encodeFields f).extractLsb' 4 3 = f.gain := by
  apply BitVec.eq_of_getLsbD_eq
  intro i hi
  interval_cases i <;> simp [encodeFields]

@[simp] theorem encodeFields_mux (f : Fields) : (encodeFields f).extractLsb' 1 3 = f.mux := by
  apply BitVec.eq_of_getLsbD_eq
  intro i hi
  interval_cases i <;> simp [encodeFields]

@[simp] theorem encodeFields_start (f : Fields) : (encodeFields f).extractLsb' 0 1 = f.start := by
  apply BitVec.eq_of_getLsbD_eq
  intro i hi
  interval_cases i
  simp [encodeFields]

/-- Every field of an updated word is the field of the updated record (R103). -/
theorem fieldsOf_updateFields (upd : Fields → Fields) (w : ConfigWord) :
    fieldsOf (updateFields upd w) = upd (fieldsOf w) := by
  simp [fieldsOf, updateFields, decodeFields]

/-- The reserved bit survives every update (R24). -/
theorem updateFields_reserved (upd : Fields → Fields) (w : ConfigWord) : (updateFields upd w).getLsbD 15 = true := by
  simp [updateFields]

end Sys2Proof.Machine
end

