-- ==== Sys2Proof/Laws/State.lean ====
section
/-! SUPPORT. What each named update of the state does to each field. -/

namespace Sys2Proof.Machine

/-! `respond` -/

@[simp] theorem respond_cfg (st : Status) (raw : BitVec 16) (v : ScaledValue) (s : State) : (respond st raw v s).cfg = s.cfg := rfl
@[simp] theorem respond_lastMode (st : Status) (raw : BitVec 16) (v : ScaledValue) (s : State) : (respond st raw v s).lastMode = s.lastMode := rfl
@[simp] theorem respond_seq (st : Status) (raw : BitVec 16) (v : ScaledValue) (s : State) : (respond st raw v s).seq = s.seq := rfl
@[simp] theorem respond_phase (st : Status) (raw : BitVec 16) (v : ScaledValue) (s : State) : (respond st raw v s).phase = s.phase := rfl
@[simp] theorem respond_byteIdx (st : Status) (raw : BitVec 16) (v : ScaledValue) (s : State) : (respond st raw v s).byteIdx = s.byteIdx := rfl
@[simp] theorem respond_txWord (st : Status) (raw : BitVec 16) (v : ScaledValue) (s : State) : (respond st raw v s).txWord = s.txWord := rfl
@[simp] theorem respond_rxBuf (st : Status) (raw : BitVec 16) (v : ScaledValue) (s : State) : (respond st raw v s).rxBuf = s.rxBuf := rfl
@[simp] theorem respond_txFail (st : Status) (raw : BitVec 16) (v : ScaledValue) (s : State) : (respond st raw v s).txFail = s.txFail := rfl
@[simp] theorem respond_curOp (st : Status) (raw : BitVec 16) (v : ScaledValue) (s : State) : (respond st raw v s).curOp = s.curOp := rfl
@[simp] theorem respond_reqMode (st : Status) (raw : BitVec 16) (v : ScaledValue) (s : State) : (respond st raw v s).reqMode = s.reqMode := rfl
@[simp] theorem respond_reqChan (st : Status) (raw : BitVec 16) (v : ScaledValue) (s : State) : (respond st raw v s).reqChan = s.reqChan := rfl
@[simp] theorem respond_csN (st : Status) (raw : BitVec 16) (v : ScaledValue) (s : State) : (respond st raw v s).csN = s.csN := rfl
@[simp] theorem respond_rspValid (st : Status) (raw : BitVec 16) (v : ScaledValue) (s : State) : (respond st raw v s).rspValid = true := rfl
@[simp] theorem respond_rspStatus (st : Status) (raw : BitVec 16) (v : ScaledValue) (s : State) : (respond st raw v s).rspStatus = st := rfl
@[simp] theorem respond_rspRaw (st : Status) (raw : BitVec 16) (v : ScaledValue) (s : State) : (respond st raw v s).rspRaw = raw := rfl
@[simp] theorem respond_rspValue (st : Status) (raw : BitVec 16) (v : ScaledValue) (s : State) : (respond st raw v s).rspValue = v := rfl
@[simp] theorem respond_hasDrdy (st : Status) (raw : BitVec 16) (v : ScaledValue) (s : State) : (respond st raw v s).hasDrdy = s.hasDrdy := rfl
@[simp] theorem respond_sclkHz (st : Status) (raw : BitVec 16) (v : ScaledValue) (s : State) : (respond st raw v s).sclkHz = s.sclkHz := rfl
@[simp] theorem respond_hostPos (st : Status) (raw : BitVec 16) (v : ScaledValue) (s : State) : (respond st raw v s).hostPos = s.hostPos := rfl
@[simp] theorem respond_events (st : Status) (raw : BitVec 16) (v : ScaledValue) (s : State) : (respond st raw v s).events = s.events := rfl
@[simp] theorem respond_env (st : Status) (raw : BitVec 16) (v : ScaledValue) (s : State) : (respond st raw v s).env = s.env := rfl
@[simp] theorem respond_tick (st : Status) (raw : BitVec 16) (v : ScaledValue) (s : State) : (respond st raw v s).tick = s.tick := rfl

/-! `respondError` -/

@[simp] theorem respondError_cfg (st : Status) (s : State) : (respondError st s).cfg = s.cfg := rfl
@[simp] theorem respondError_lastMode (st : Status) (s : State) : (respondError st s).lastMode = s.lastMode := rfl
@[simp] theorem respondError_seq (st : Status) (s : State) : (respondError st s).seq = s.seq := rfl
@[simp] theorem respondError_phase (st : Status) (s : State) : (respondError st s).phase = s.phase := rfl
@[simp] theorem respondError_byteIdx (st : Status) (s : State) : (respondError st s).byteIdx = s.byteIdx := rfl
@[simp] theorem respondError_txWord (st : Status) (s : State) : (respondError st s).txWord = s.txWord := rfl
@[simp] theorem respondError_rxBuf (st : Status) (s : State) : (respondError st s).rxBuf = s.rxBuf := rfl
@[simp] theorem respondError_txFail (st : Status) (s : State) : (respondError st s).txFail = s.txFail := rfl
@[simp] theorem respondError_curOp (st : Status) (s : State) : (respondError st s).curOp = s.curOp := rfl
@[simp] theorem respondError_reqMode (st : Status) (s : State) : (respondError st s).reqMode = s.reqMode := rfl
@[simp] theorem respondError_reqChan (st : Status) (s : State) : (respondError st s).reqChan = s.reqChan := rfl
@[simp] theorem respondError_csN (st : Status) (s : State) : (respondError st s).csN = s.csN := rfl
@[simp] theorem respondError_rspValid (st : Status) (s : State) : (respondError st s).rspValid = true := rfl
@[simp] theorem respondError_rspStatus (st : Status) (s : State) : (respondError st s).rspStatus = st := rfl
@[simp] theorem respondError_rspRaw (st : Status) (s : State) : (respondError st s).rspRaw = 0x0000 := rfl
@[simp] theorem respondError_rspValue (st : Status) (s : State) : (respondError st s).rspValue = 0 := rfl
@[simp] theorem respondError_hasDrdy (st : Status) (s : State) : (respondError st s).hasDrdy = s.hasDrdy := rfl
@[simp] theorem respondError_sclkHz (st : Status) (s : State) : (respondError st s).sclkHz = s.sclkHz := rfl
@[simp] theorem respondError_hostPos (st : Status) (s : State) : (respondError st s).hostPos = s.hostPos := rfl
@[simp] theorem respondError_events (st : Status) (s : State) : (respondError st s).events = s.events := rfl
@[simp] theorem respondError_env (st : Status) (s : State) : (respondError st s).env = s.env := rfl
@[simp] theorem respondError_tick (st : Status) (s : State) : (respondError st s).tick = s.tick := rfl

/-! `raiseStatus` -/

@[simp] theorem raiseStatus_cfg (st : Status) (s : State) : (raiseStatus st s).cfg = s.cfg := rfl
@[simp] theorem raiseStatus_lastMode (st : Status) (s : State) : (raiseStatus st s).lastMode = s.lastMode := rfl
@[simp] theorem raiseStatus_seq (st : Status) (s : State) : (raiseStatus st s).seq = .idle := rfl
@[simp] theorem raiseStatus_phase (st : Status) (s : State) : (raiseStatus st s).phase = s.phase := rfl
@[simp] theorem raiseStatus_byteIdx (st : Status) (s : State) : (raiseStatus st s).byteIdx = s.byteIdx := rfl
@[simp] theorem raiseStatus_txWord (st : Status) (s : State) : (raiseStatus st s).txWord = s.txWord := rfl
@[simp] theorem raiseStatus_rxBuf (st : Status) (s : State) : (raiseStatus st s).rxBuf = s.rxBuf := rfl
@[simp] theorem raiseStatus_txFail (st : Status) (s : State) : (raiseStatus st s).txFail = s.txFail := rfl
@[simp] theorem raiseStatus_curOp (st : Status) (s : State) : (raiseStatus st s).curOp = s.curOp := rfl
@[simp] theorem raiseStatus_reqMode (st : Status) (s : State) : (raiseStatus st s).reqMode = s.reqMode := rfl
@[simp] theorem raiseStatus_reqChan (st : Status) (s : State) : (raiseStatus st s).reqChan = s.reqChan := rfl
@[simp] theorem raiseStatus_csN (st : Status) (s : State) : (raiseStatus st s).csN = s.csN := rfl
@[simp] theorem raiseStatus_rspValid (st : Status) (s : State) : (raiseStatus st s).rspValid = true := rfl
@[simp] theorem raiseStatus_rspStatus (st : Status) (s : State) : (raiseStatus st s).rspStatus = st := rfl
@[simp] theorem raiseStatus_rspRaw (st : Status) (s : State) : (raiseStatus st s).rspRaw = 0x0000 := rfl
@[simp] theorem raiseStatus_rspValue (st : Status) (s : State) : (raiseStatus st s).rspValue = 0 := rfl
@[simp] theorem raiseStatus_hasDrdy (st : Status) (s : State) : (raiseStatus st s).hasDrdy = s.hasDrdy := rfl
@[simp] theorem raiseStatus_sclkHz (st : Status) (s : State) : (raiseStatus st s).sclkHz = s.sclkHz := rfl
@[simp] theorem raiseStatus_hostPos (st : Status) (s : State) : (raiseStatus st s).hostPos = s.hostPos := rfl
@[simp] theorem raiseStatus_events (st : Status) (s : State) : (raiseStatus st s).events = s.events := rfl
@[simp] theorem raiseStatus_env (st : Status) (s : State) : (raiseStatus st s).env = s.env := rfl
@[simp] theorem raiseStatus_tick (st : Status) (s : State) : (raiseStatus st s).tick = s.tick := rfl

/-! `acceptOp` -/

@[simp] theorem acceptOp_cfg (op : BitVec 4) (s : State) : (acceptOp op s).cfg = s.cfg := rfl
@[simp] theorem acceptOp_lastMode (op : BitVec 4) (s : State) : (acceptOp op s).lastMode = s.lastMode := rfl
@[simp] theorem acceptOp_seq (op : BitVec 4) (s : State) : (acceptOp op s).seq = s.seq := rfl
@[simp] theorem acceptOp_phase (op : BitVec 4) (s : State) : (acceptOp op s).phase = s.phase := rfl
@[simp] theorem acceptOp_byteIdx (op : BitVec 4) (s : State) : (acceptOp op s).byteIdx = s.byteIdx := rfl
@[simp] theorem acceptOp_txWord (op : BitVec 4) (s : State) : (acceptOp op s).txWord = s.txWord := rfl
@[simp] theorem acceptOp_rxBuf (op : BitVec 4) (s : State) : (acceptOp op s).rxBuf = s.rxBuf := rfl
@[simp] theorem acceptOp_txFail (op : BitVec 4) (s : State) : (acceptOp op s).txFail = s.txFail := rfl
@[simp] theorem acceptOp_curOp (op : BitVec 4) (s : State) : (acceptOp op s).curOp = op := rfl
@[simp] theorem acceptOp_reqMode (op : BitVec 4) (s : State) : (acceptOp op s).reqMode = s.reqMode := rfl
@[simp] theorem acceptOp_reqChan (op : BitVec 4) (s : State) : (acceptOp op s).reqChan = s.reqChan := rfl
@[simp] theorem acceptOp_csN (op : BitVec 4) (s : State) : (acceptOp op s).csN = s.csN := rfl
@[simp] theorem acceptOp_rspValid (op : BitVec 4) (s : State) : (acceptOp op s).rspValid = false := rfl
@[simp] theorem acceptOp_rspStatus (op : BitVec 4) (s : State) : (acceptOp op s).rspStatus = s.rspStatus := rfl
@[simp] theorem acceptOp_rspRaw (op : BitVec 4) (s : State) : (acceptOp op s).rspRaw = s.rspRaw := rfl
@[simp] theorem acceptOp_rspValue (op : BitVec 4) (s : State) : (acceptOp op s).rspValue = s.rspValue := rfl
@[simp] theorem acceptOp_hasDrdy (op : BitVec 4) (s : State) : (acceptOp op s).hasDrdy = s.hasDrdy := rfl
@[simp] theorem acceptOp_sclkHz (op : BitVec 4) (s : State) : (acceptOp op s).sclkHz = s.sclkHz := rfl
@[simp] theorem acceptOp_hostPos (op : BitVec 4) (s : State) : (acceptOp op s).hostPos = s.hostPos + 1 := rfl
@[simp] theorem acceptOp_events (op : BitVec 4) (s : State) : (acceptOp op s).events = s.events := rfl
@[simp] theorem acceptOp_env (op : BitVec 4) (s : State) : (acceptOp op s).env = s.env := rfl
@[simp] theorem acceptOp_tick (op : BitVec 4) (s : State) : (acceptOp op s).tick = s.tick := rfl

/-! `advance` -/

@[simp] theorem advance_cfg (s : State) : (advance s).cfg = s.cfg := rfl
@[simp] theorem advance_lastMode (s : State) : (advance s).lastMode = s.lastMode := rfl
@[simp] theorem advance_seq (s : State) : (advance s).seq = s.seq := rfl
@[simp] theorem advance_phase (s : State) : (advance s).phase = s.phase := rfl
@[simp] theorem advance_byteIdx (s : State) : (advance s).byteIdx = s.byteIdx := rfl
@[simp] theorem advance_txWord (s : State) : (advance s).txWord = s.txWord := rfl
@[simp] theorem advance_rxBuf (s : State) : (advance s).rxBuf = s.rxBuf := rfl
@[simp] theorem advance_txFail (s : State) : (advance s).txFail = s.txFail := rfl
@[simp] theorem advance_curOp (s : State) : (advance s).curOp = s.curOp := rfl
@[simp] theorem advance_reqMode (s : State) : (advance s).reqMode = s.reqMode := rfl
@[simp] theorem advance_reqChan (s : State) : (advance s).reqChan = s.reqChan := rfl
@[simp] theorem advance_csN (s : State) : (advance s).csN = s.csN := rfl
@[simp] theorem advance_rspValid (s : State) : (advance s).rspValid = s.rspValid := rfl
@[simp] theorem advance_rspStatus (s : State) : (advance s).rspStatus = s.rspStatus := rfl
@[simp] theorem advance_rspRaw (s : State) : (advance s).rspRaw = s.rspRaw := rfl
@[simp] theorem advance_rspValue (s : State) : (advance s).rspValue = s.rspValue := rfl
@[simp] theorem advance_hasDrdy (s : State) : (advance s).hasDrdy = s.hasDrdy := rfl
@[simp] theorem advance_sclkHz (s : State) : (advance s).sclkHz = s.sclkHz := rfl
@[simp] theorem advance_hostPos (s : State) : (advance s).hostPos = s.hostPos := rfl
@[simp] theorem advance_events (s : State) : (advance s).events = s.events := rfl
@[simp] theorem advance_env (s : State) : (advance s).env = s.env.tail := rfl
@[simp] theorem advance_tick (s : State) : (advance s).tick = s.tick + 1 := rfl

/-! `emit` -/

@[simp] theorem emit_cfg (es : List Event) (s : State) : (emit es s).cfg = s.cfg := rfl
@[simp] theorem emit_lastMode (es : List Event) (s : State) : (emit es s).lastMode = s.lastMode := rfl
@[simp] theorem emit_seq (es : List Event) (s : State) : (emit es s).seq = s.seq := rfl
@[simp] theorem emit_phase (es : List Event) (s : State) : (emit es s).phase = s.phase := rfl
@[simp] theorem emit_byteIdx (es : List Event) (s : State) : (emit es s).byteIdx = s.byteIdx := rfl
@[simp] theorem emit_txWord (es : List Event) (s : State) : (emit es s).txWord = s.txWord := rfl
@[simp] theorem emit_rxBuf (es : List Event) (s : State) : (emit es s).rxBuf = s.rxBuf := rfl
@[simp] theorem emit_txFail (es : List Event) (s : State) : (emit es s).txFail = s.txFail := rfl
@[simp] theorem emit_curOp (es : List Event) (s : State) : (emit es s).curOp = s.curOp := rfl
@[simp] theorem emit_reqMode (es : List Event) (s : State) : (emit es s).reqMode = s.reqMode := rfl
@[simp] theorem emit_reqChan (es : List Event) (s : State) : (emit es s).reqChan = s.reqChan := rfl
@[simp] theorem emit_csN (es : List Event) (s : State) : (emit es s).csN = s.csN := rfl
@[simp] theorem emit_rspValid (es : List Event) (s : State) : (emit es s).rspValid = s.rspValid := rfl
@[simp] theorem emit_rspStatus (es : List Event) (s : State) : (emit es s).rspStatus = s.rspStatus := rfl
@[simp] theorem emit_rspRaw (es : List Event) (s : State) : (emit es s).rspRaw = s.rspRaw := rfl
@[simp] theorem emit_rspValue (es : List Event) (s : State) : (emit es s).rspValue = s.rspValue := rfl
@[simp] theorem emit_hasDrdy (es : List Event) (s : State) : (emit es s).hasDrdy = s.hasDrdy := rfl
@[simp] theorem emit_sclkHz (es : List Event) (s : State) : (emit es s).sclkHz = s.sclkHz := rfl
@[simp] theorem emit_hostPos (es : List Event) (s : State) : (emit es s).hostPos = s.hostPos := rfl
@[simp] theorem emit_events (es : List Event) (s : State) : (emit es s).events = s.events ++ es := rfl
@[simp] theorem emit_env (es : List Event) (s : State) : (emit es s).env = s.env := rfl
@[simp] theorem emit_tick (es : List Event) (s : State) : (emit es s).tick = s.tick := rfl

/-! An illegal word, field by field. -/

@[simp] theorem acceptIllegal_cfg (s : State) : (acceptIllegal s).cfg = s.cfg := rfl
@[simp] theorem acceptIllegal_lastMode (s : State) : (acceptIllegal s).lastMode = s.lastMode := rfl
@[simp] theorem acceptIllegal_seq (s : State) : (acceptIllegal s).seq = s.seq := rfl
@[simp] theorem acceptIllegal_phase (s : State) : (acceptIllegal s).phase = s.phase := rfl
@[simp] theorem acceptIllegal_byteIdx (s : State) : (acceptIllegal s).byteIdx = s.byteIdx := rfl
@[simp] theorem acceptIllegal_txWord (s : State) : (acceptIllegal s).txWord = s.txWord := rfl
@[simp] theorem acceptIllegal_rxBuf (s : State) : (acceptIllegal s).rxBuf = s.rxBuf := rfl
@[simp] theorem acceptIllegal_txFail (s : State) : (acceptIllegal s).txFail = s.txFail := rfl
@[simp] theorem acceptIllegal_curOp (s : State) : (acceptIllegal s).curOp = s.curOp := rfl
@[simp] theorem acceptIllegal_reqMode (s : State) : (acceptIllegal s).reqMode = s.reqMode := rfl
@[simp] theorem acceptIllegal_reqChan (s : State) : (acceptIllegal s).reqChan = s.reqChan := rfl
@[simp] theorem acceptIllegal_csN (s : State) : (acceptIllegal s).csN = s.csN := rfl
@[simp] theorem acceptIllegal_rspValid (s : State) : (acceptIllegal s).rspValid = true := rfl
@[simp] theorem acceptIllegal_rspStatus (s : State) : (acceptIllegal s).rspStatus = .illegal := rfl
@[simp] theorem acceptIllegal_rspRaw (s : State) : (acceptIllegal s).rspRaw = 0 := rfl
@[simp] theorem acceptIllegal_rspValue (s : State) : (acceptIllegal s).rspValue = 0 := rfl
@[simp] theorem acceptIllegal_hasDrdy (s : State) : (acceptIllegal s).hasDrdy = s.hasDrdy := rfl
@[simp] theorem acceptIllegal_sclkHz (s : State) : (acceptIllegal s).sclkHz = s.sclkHz := rfl
@[simp] theorem acceptIllegal_hostPos (s : State) : (acceptIllegal s).hostPos = s.hostPos + 1 := rfl
@[simp] theorem acceptIllegal_events (s : State) : (acceptIllegal s).events = s.events := rfl
@[simp] theorem acceptIllegal_env (s : State) : (acceptIllegal s).env = s.env := rfl
@[simp] theorem acceptIllegal_tick (s : State) : (acceptIllegal s).tick = s.tick := rfl

/-! Step TX_BEGIN, field by field. -/

@[simp] theorem txBegin_cfg (s : State) : (txBegin s).cfg = s.cfg := rfl
@[simp] theorem txBegin_lastMode (s : State) : (txBegin s).lastMode = s.lastMode := rfl
@[simp] theorem txBegin_seq (s : State) : (txBegin s).seq = .txXfer := rfl
@[simp] theorem txBegin_phase (s : State) : (txBegin s).phase = s.phase := rfl
@[simp] theorem txBegin_byteIdx (s : State) : (txBegin s).byteIdx = 0 := rfl
@[simp] theorem txBegin_txWord (s : State) : (txBegin s).txWord = s.txWord := rfl
@[simp] theorem txBegin_rxBuf (s : State) : (txBegin s).rxBuf = 0 := rfl
@[simp] theorem txBegin_txFail (s : State) : (txBegin s).txFail = false := rfl
@[simp] theorem txBegin_curOp (s : State) : (txBegin s).curOp = s.curOp := rfl
@[simp] theorem txBegin_reqMode (s : State) : (txBegin s).reqMode = s.reqMode := rfl
@[simp] theorem txBegin_reqChan (s : State) : (txBegin s).reqChan = s.reqChan := rfl
@[simp] theorem txBegin_csN (s : State) : (txBegin s).csN = false := rfl
@[simp] theorem txBegin_rspValid (s : State) : (txBegin s).rspValid = s.rspValid := rfl
@[simp] theorem txBegin_rspStatus (s : State) : (txBegin s).rspStatus = s.rspStatus := rfl
@[simp] theorem txBegin_rspRaw (s : State) : (txBegin s).rspRaw = s.rspRaw := rfl
@[simp] theorem txBegin_rspValue (s : State) : (txBegin s).rspValue = s.rspValue := rfl
@[simp] theorem txBegin_hasDrdy (s : State) : (txBegin s).hasDrdy = s.hasDrdy := rfl
@[simp] theorem txBegin_sclkHz (s : State) : (txBegin s).sclkHz = s.sclkHz := rfl
@[simp] theorem txBegin_hostPos (s : State) : (txBegin s).hostPos = s.hostPos := rfl
@[simp] theorem txBegin_events (s : State) : (txBegin s).events = s.events ++ [.csAssert, .busBegin (busCfg s)] := rfl
@[simp] theorem txBegin_env (s : State) : (txBegin s).env = s.env := rfl
@[simp] theorem txBegin_tick (s : State) : (txBegin s).tick = s.tick := rfl

/-! A failed transfer, field by field. -/

@[simp] theorem xferFail_cfg (s : State) : (xferFail s).cfg = s.cfg := rfl
@[simp] theorem xferFail_lastMode (s : State) : (xferFail s).lastMode = s.lastMode := rfl
@[simp] theorem xferFail_seq (s : State) : (xferFail s).seq = .txEnd := rfl
@[simp] theorem xferFail_phase (s : State) : (xferFail s).phase = s.phase := rfl
@[simp] theorem xferFail_byteIdx (s : State) : (xferFail s).byteIdx = s.byteIdx := rfl
@[simp] theorem xferFail_txWord (s : State) : (xferFail s).txWord = s.txWord := rfl
@[simp] theorem xferFail_rxBuf (s : State) : (xferFail s).rxBuf = s.rxBuf := rfl
@[simp] theorem xferFail_txFail (s : State) : (xferFail s).txFail = true := rfl
@[simp] theorem xferFail_curOp (s : State) : (xferFail s).curOp = s.curOp := rfl
@[simp] theorem xferFail_reqMode (s : State) : (xferFail s).reqMode = s.reqMode := rfl
@[simp] theorem xferFail_reqChan (s : State) : (xferFail s).reqChan = s.reqChan := rfl
@[simp] theorem xferFail_csN (s : State) : (xferFail s).csN = s.csN := rfl
@[simp] theorem xferFail_rspValid (s : State) : (xferFail s).rspValid = s.rspValid := rfl
@[simp] theorem xferFail_rspStatus (s : State) : (xferFail s).rspStatus = s.rspStatus := rfl
@[simp] theorem xferFail_rspRaw (s : State) : (xferFail s).rspRaw = s.rspRaw := rfl
@[simp] theorem xferFail_rspValue (s : State) : (xferFail s).rspValue = s.rspValue := rfl
@[simp] theorem xferFail_hasDrdy (s : State) : (xferFail s).hasDrdy = s.hasDrdy := rfl
@[simp] theorem xferFail_sclkHz (s : State) : (xferFail s).sclkHz = s.sclkHz := rfl
@[simp] theorem xferFail_hostPos (s : State) : (xferFail s).hostPos = s.hostPos := rfl
@[simp] theorem xferFail_events (s : State) : (xferFail s).events = s.events ++ [.busXfer (outByte s.txWord s.byteIdx)] := rfl
@[simp] theorem xferFail_env (s : State) : (xferFail s).env = s.env := rfl
@[simp] theorem xferFail_tick (s : State) : (xferFail s).tick = s.tick := rfl

/-! The commit, field by field. -/

@[simp] theorem commit_cfg (s : State) : (commit s).cfg = s.txWord := rfl
@[simp] theorem commit_lastMode (s : State) : (commit s).lastMode = s.reqMode.asLast := rfl
@[simp] theorem commit_seq (s : State) : (commit s).seq = .wait := rfl
@[simp] theorem commit_phase (s : State) : (commit s).phase = s.phase := rfl
@[simp] theorem commit_byteIdx (s : State) : (commit s).byteIdx = s.byteIdx := rfl
@[simp] theorem commit_txWord (s : State) : (commit s).txWord = s.txWord := rfl
@[simp] theorem commit_rxBuf (s : State) : (commit s).rxBuf = s.rxBuf := rfl
@[simp] theorem commit_txFail (s : State) : (commit s).txFail = s.txFail := rfl
@[simp] theorem commit_curOp (s : State) : (commit s).curOp = s.curOp := rfl
@[simp] theorem commit_reqMode (s : State) : (commit s).reqMode = s.reqMode := rfl
@[simp] theorem commit_reqChan (s : State) : (commit s).reqChan = s.reqChan := rfl
@[simp] theorem commit_csN (s : State) : (commit s).csN = s.csN := rfl
@[simp] theorem commit_rspValid (s : State) : (commit s).rspValid = s.rspValid := rfl
@[simp] theorem commit_rspStatus (s : State) : (commit s).rspStatus = s.rspStatus := rfl
@[simp] theorem commit_rspRaw (s : State) : (commit s).rspRaw = s.rspRaw := rfl
@[simp] theorem commit_rspValue (s : State) : (commit s).rspValue = s.rspValue := rfl
@[simp] theorem commit_hasDrdy (s : State) : (commit s).hasDrdy = s.hasDrdy := rfl
@[simp] theorem commit_sclkHz (s : State) : (commit s).sclkHz = s.sclkHz := rfl
@[simp] theorem commit_hostPos (s : State) : (commit s).hostPos = s.hostPos := rfl
@[simp] theorem commit_events (s : State) : (commit s).events = s.events ++ [.timerStart (lat (decodeFields s.txWord).2.rate)] := rfl
@[simp] theorem commit_env (s : State) : (commit s).env = s.env := rfl
@[simp] theorem commit_tick (s : State) : (commit s).tick = s.tick := rfl

/-! The delivery, field by field. -/

@[simp] theorem deliver_cfg (s : State) : (deliver s).cfg = s.cfg := rfl
@[simp] theorem deliver_lastMode (s : State) : (deliver s).lastMode = s.lastMode := rfl
@[simp] theorem deliver_seq (s : State) : (deliver s).seq = .idle := rfl
@[simp] theorem deliver_phase (s : State) : (deliver s).phase = s.phase := rfl
@[simp] theorem deliver_byteIdx (s : State) : (deliver s).byteIdx = s.byteIdx := rfl
@[simp] theorem deliver_txWord (s : State) : (deliver s).txWord = s.txWord := rfl
@[simp] theorem deliver_rxBuf (s : State) : (deliver s).rxBuf = s.rxBuf := rfl
@[simp] theorem deliver_txFail (s : State) : (deliver s).txFail = s.txFail := rfl
@[simp] theorem deliver_curOp (s : State) : (deliver s).curOp = s.curOp := rfl
@[simp] theorem deliver_reqMode (s : State) : (deliver s).reqMode = s.reqMode := rfl
@[simp] theorem deliver_reqChan (s : State) : (deliver s).reqChan = s.reqChan := rfl
@[simp] theorem deliver_csN (s : State) : (deliver s).csN = s.csN := rfl
@[simp] theorem deliver_rspValid (s : State) : (deliver s).rspValid = true := rfl
@[simp] theorem deliver_rspStatus (s : State) : (deliver s).rspStatus = .ok := rfl
@[simp] theorem deliver_rspRaw (s : State) : (deliver s).rspRaw = s.sample := rfl
@[simp] theorem deliver_rspValue (s : State) : (deliver s).rspValue = deliveredValue s.curOp s.sample s.cfgGain := rfl
@[simp] theorem deliver_hasDrdy (s : State) : (deliver s).hasDrdy = s.hasDrdy := rfl
@[simp] theorem deliver_sclkHz (s : State) : (deliver s).sclkHz = s.sclkHz := rfl
@[simp] theorem deliver_hostPos (s : State) : (deliver s).hostPos = s.hostPos := rfl
@[simp] theorem deliver_events (s : State) : (deliver s).events = s.events := rfl
@[simp] theorem deliver_env (s : State) : (deliver s).env = s.env := rfl
@[simp] theorem deliver_tick (s : State) : (deliver s).tick = s.tick := rfl

/-! The reset step, field by field. -/

@[simp] theorem resetStep_cfg (s : State) : (resetStep s).cfg = 0xB0F1 := rfl
@[simp] theorem resetStep_lastMode (s : State) : (resetStep s).lastMode = .uninitialized := rfl
@[simp] theorem resetStep_seq (s : State) : (resetStep s).seq = .idle := rfl
@[simp] theorem resetStep_phase (s : State) : (resetStep s).phase = .final := rfl
@[simp] theorem resetStep_byteIdx (s : State) : (resetStep s).byteIdx = 0 := rfl
@[simp] theorem resetStep_txWord (s : State) : (resetStep s).txWord = 0 := rfl
@[simp] theorem resetStep_rxBuf (s : State) : (resetStep s).rxBuf = 0 := rfl
@[simp] theorem resetStep_txFail (s : State) : (resetStep s).txFail = false := rfl
@[simp] theorem resetStep_curOp (s : State) : (resetStep s).curOp = 0 := rfl
@[simp] theorem resetStep_reqMode (s : State) : (resetStep s).reqMode = .adc := rfl
@[simp] theorem resetStep_reqChan (s : State) : (resetStep s).reqChan = 0 := rfl
@[simp] theorem resetStep_csN (s : State) : (resetStep s).csN = true := rfl
@[simp] theorem resetStep_rspValid (s : State) : (resetStep s).rspValid = false := rfl
@[simp] theorem resetStep_rspStatus (s : State) : (resetStep s).rspStatus = .ok := rfl
@[simp] theorem resetStep_rspRaw (s : State) : (resetStep s).rspRaw = 0 := rfl
@[simp] theorem resetStep_rspValue (s : State) : (resetStep s).rspValue = 0 := rfl
@[simp] theorem resetStep_hasDrdy (s : State) : (resetStep s).hasDrdy = s.hasDrdy := rfl
@[simp] theorem resetStep_sclkHz (s : State) : (resetStep s).sclkHz = s.sclkHz := rfl
@[simp] theorem resetStep_hostPos (s : State) : (resetStep s).hostPos = s.hostPos := rfl
@[simp] theorem resetStep_events (s : State) : (resetStep s).events = s.events ++ resetEvents s := rfl
@[simp] theorem resetStep_env (s : State) : (resetStep s).env = s.env := rfl
@[simp] theorem resetStep_tick (s : State) : (resetStep s).tick = s.tick := rfl

/-! The start of the timer, field by field. -/

@[simp] theorem startTimer_cfg (ms : BitVec 8) (s : State) : (startTimer ms s).cfg = s.cfg := rfl
@[simp] theorem startTimer_lastMode (ms : BitVec 8) (s : State) : (startTimer ms s).lastMode = s.lastMode := rfl
@[simp] theorem startTimer_seq (ms : BitVec 8) (s : State) : (startTimer ms s).seq = s.seq := rfl
@[simp] theorem startTimer_phase (ms : BitVec 8) (s : State) : (startTimer ms s).phase = s.phase := rfl
@[simp] theorem startTimer_byteIdx (ms : BitVec 8) (s : State) : (startTimer ms s).byteIdx = s.byteIdx := rfl
@[simp] theorem startTimer_txWord (ms : BitVec 8) (s : State) : (startTimer ms s).txWord = s.txWord := rfl
@[simp] theorem startTimer_rxBuf (ms : BitVec 8) (s : State) : (startTimer ms s).rxBuf = s.rxBuf := rfl
@[simp] theorem startTimer_txFail (ms : BitVec 8) (s : State) : (startTimer ms s).txFail = s.txFail := rfl
@[simp] theorem startTimer_curOp (ms : BitVec 8) (s : State) : (startTimer ms s).curOp = s.curOp := rfl
@[simp] theorem startTimer_reqMode (ms : BitVec 8) (s : State) : (startTimer ms s).reqMode = s.reqMode := rfl
@[simp] theorem startTimer_reqChan (ms : BitVec 8) (s : State) : (startTimer ms s).reqChan = s.reqChan := rfl
@[simp] theorem startTimer_csN (ms : BitVec 8) (s : State) : (startTimer ms s).csN = s.csN := rfl
@[simp] theorem startTimer_rspValid (ms : BitVec 8) (s : State) : (startTimer ms s).rspValid = s.rspValid := rfl
@[simp] theorem startTimer_rspStatus (ms : BitVec 8) (s : State) : (startTimer ms s).rspStatus = s.rspStatus := rfl
@[simp] theorem startTimer_rspRaw (ms : BitVec 8) (s : State) : (startTimer ms s).rspRaw = s.rspRaw := rfl
@[simp] theorem startTimer_rspValue (ms : BitVec 8) (s : State) : (startTimer ms s).rspValue = s.rspValue := rfl
@[simp] theorem startTimer_hasDrdy (ms : BitVec 8) (s : State) : (startTimer ms s).hasDrdy = s.hasDrdy := rfl
@[simp] theorem startTimer_sclkHz (ms : BitVec 8) (s : State) : (startTimer ms s).sclkHz = s.sclkHz := rfl
@[simp] theorem startTimer_hostPos (ms : BitVec 8) (s : State) : (startTimer ms s).hostPos = s.hostPos := rfl
@[simp] theorem startTimer_events (ms : BitVec 8) (s : State) : (startTimer ms s).events = s.events ++ [.timerStart ms] := rfl
@[simp] theorem startTimer_env (ms : BitVec 8) (s : State) : (startTimer ms s).env = s.env := rfl
@[simp] theorem startTimer_tick (ms : BitVec 8) (s : State) : (startTimer ms s).tick = s.tick := rfl

/-! The accept step of every word, field by field. -/

@[simp] theorem acceptWord_cfg (s : State) : (acceptWord s).cfg = s.cfg := rfl
@[simp] theorem acceptWord_lastMode (s : State) : (acceptWord s).lastMode = s.lastMode := rfl
@[simp] theorem acceptWord_seq (s : State) : (acceptWord s).seq = s.seq := rfl
@[simp] theorem acceptWord_phase (s : State) : (acceptWord s).phase = s.phase := rfl
@[simp] theorem acceptWord_byteIdx (s : State) : (acceptWord s).byteIdx = s.byteIdx := rfl
@[simp] theorem acceptWord_txWord (s : State) : (acceptWord s).txWord = s.txWord := rfl
@[simp] theorem acceptWord_rxBuf (s : State) : (acceptWord s).rxBuf = s.rxBuf := rfl
@[simp] theorem acceptWord_txFail (s : State) : (acceptWord s).txFail = s.txFail := rfl
@[simp] theorem acceptWord_curOp (s : State) : (acceptWord s).curOp = s.curOp := rfl
@[simp] theorem acceptWord_reqMode (s : State) : (acceptWord s).reqMode = s.reqMode := rfl
@[simp] theorem acceptWord_reqChan (s : State) : (acceptWord s).reqChan = s.reqChan := rfl
@[simp] theorem acceptWord_csN (s : State) : (acceptWord s).csN = s.csN := rfl
@[simp] theorem acceptWord_rspValid (s : State) : (acceptWord s).rspValid = false := rfl
@[simp] theorem acceptWord_rspStatus (s : State) : (acceptWord s).rspStatus = s.rspStatus := rfl
@[simp] theorem acceptWord_rspRaw (s : State) : (acceptWord s).rspRaw = s.rspRaw := rfl
@[simp] theorem acceptWord_rspValue (s : State) : (acceptWord s).rspValue = s.rspValue := rfl
@[simp] theorem acceptWord_hasDrdy (s : State) : (acceptWord s).hasDrdy = s.hasDrdy := rfl
@[simp] theorem acceptWord_sclkHz (s : State) : (acceptWord s).sclkHz = s.sclkHz := rfl
@[simp] theorem acceptWord_hostPos (s : State) : (acceptWord s).hostPos = s.hostPos + 1 := rfl
@[simp] theorem acceptWord_events (s : State) : (acceptWord s).events = s.events := rfl
@[simp] theorem acceptWord_env (s : State) : (acceptWord s).env = s.env := rfl
@[simp] theorem acceptWord_tick (s : State) : (acceptWord s).tick = s.tick := rfl

end Sys2Proof.Machine
end

