-- ==== Sys2Proof/Laws/Ops.lean ====
section
/-! SUPPORT. What each shared operation can do, once. -/

namespace Sys2Proof.Machine

/-! ## Reading the ports -/

theorem ports_of_env {s : State} {p : Ports} {rest : List Ports} (h : s.env = p :: rest) : s.ports = p := by
  simp [State.ports, h]

theorem ports_of_empty {s : State} (h : s.env = []) : s.ports = Config.freePorts s.tick := by
  simp [State.ports, h]

/-- What a step reads of the ports depends on `env` and `tick` alone. -/
theorem ports_congr {s t : State} (he : t.env = s.env) (hk : t.tick = s.tick) : t.ports = s.ports := by
  simp [State.ports, he, hk]

theorem presented_of_valid {s : State} {w : CommandWord} (hv : s.ports.cmdValid = true) (hw : s.ports.cmdWord = w) :
    s.presented = some w := by
  simp [State.presented, hv, hw]

theorem presented_none {s : State} (hv : s.ports.cmdValid = false) : s.presented = none := by
  simp [State.presented, hv]

/-! ## Operands -/

/-- A range check passes exactly the values up to the largest one and keeps the value. -/
theorem checkedField_cases (width max arg : Nat) :
    (max < arg ∧ checkedField width max arg = none) ∨
      (arg ≤ max ∧ checkedField width max arg = some (BitVec.ofNat width arg)) := by
  unfold checkedField
  split
  · exact .inl ⟨‹_›, rfl⟩
  · exact .inr ⟨by omega, rfl⟩

/-! ## Commands -/

/-- A setter either answers OUT_OF_RANGE and leaves `cfg`, or updates `cfg` and answers with it. -/
theorem runSetter_cases (width max : Nat) (upd : BitVec width → Fields → Fields) (arg : Nat) (s : State) :
    (max < arg ∧ runSetter width max upd arg s = respondError .outOfRange s) ∨
      (arg ≤ max ∧ runSetter width max upd arg s =
        respond .ok (updateFields (upd (BitVec.ofNat width arg)) s.cfg) 0
          { s with cfg := updateFields (upd (BitVec.ofNat width arg)) s.cfg }) := by
  obtain ⟨h, e⟩ | ⟨h, e⟩ := checkedField_cases width max arg
  · exact .inl ⟨h, by simp [runSetter, e]⟩
  · exact .inr ⟨h, by simp [runSetter, e]⟩

/-- The two ways a blocking acquisition starts (R172). -/
theorem startBlocking_cases (m : SensorMode) (c : BitVec 3) (s : State) :
    (needDiscard m c s = true ∧ startBlocking m c s =
        { s with reqMode := m, reqChan := c, txWord := stagedWord m c s, phase := .discard, seq := .txBegin }) ∨
      (needDiscard m c s = false ∧ startBlocking m c s =
        { s with reqMode := m, reqChan := c, seq := .wait, events := s.events ++ [.timerStart (lat s.cfgRate)] }) := by
  cases h : needDiscard m c s
  · exact .inr ⟨rfl, by simp [startBlocking, h, startTimer, emit]⟩
  · exact .inl ⟨rfl, by simp [startBlocking, h]⟩

/-- The two ways a non-blocking acquisition starts (R178). -/
theorem startNonBlocking_cases (s : State) :
    (s.drdyLevel = true ∧ startNonBlocking s = respondError .notReady s) ∨
      (s.drdyLevel = false ∧ startNonBlocking s = { s with txWord := s.cfg, phase := .nowait, seq := .txBegin }) := by
  cases h : s.drdyLevel
  · exact .inr ⟨rfl, by simp [startNonBlocking, h]⟩
  · exact .inl ⟨rfl, by simp [startNonBlocking, h]⟩

/-- A channel read stops on a channel above 7 and otherwise starts a blocking acquisition in ADC mode (R180). -/
theorem startChannelRead_cases (op : BitVec 4) (arg : Nat) (s : State) :
    (7 < arg ∧ startChannelRead op arg s = respondError .outOfRange (acceptWord s)) ∨
      (arg ≤ 7 ∧ startChannelRead op arg s = startBlocking .adc (BitVec.ofNat 3 arg) (acceptOp op s)) := by
  obtain ⟨h, e⟩ | ⟨h, e⟩ := checkedField_cases 3 7 arg
  · exact .inl ⟨h, by simp [startChannelRead, e]⟩
  · exact .inr ⟨h, by simp [startChannelRead, e]⟩

/-! ## The bus transaction -/

/-- The three things a TX_XFER step can do. -/
theorem txXfer_cases (s : State) :
    (s.ports.xfer = .pending ∧ txXfer s = s) ∨ (∃ b, s.ports.xfer = .byte b ∧ txXfer s = xferByte b s) ∨
      (s.ports.xfer = .fail ∧ txXfer s = xferFail s) := by
  cases h : s.ports.xfer
  · exact .inl ⟨rfl, by simp [txXfer, h]⟩
  · exact .inr (.inl ⟨_, rfl, by simp [txXfer, h]⟩)
  · exact .inr (.inr ⟨rfl, by simp [txXfer, h]⟩)

/-- The three ways a frame completes (R177). -/
theorem completeFrame_cases (s : State) :
    (s.txFail = true ∧ completeFrame s = raiseStatus .busError s) ∨
      (s.txFail = false ∧ s.phase = .discard ∧ completeFrame s = commit s) ∨
      (s.txFail = false ∧ s.phase ≠ .discard ∧ completeFrame s = deliver s) := by
  cases hf : s.txFail
  · cases hp : s.phase
    · exact .inr (.inl ⟨rfl, rfl, by simp [completeFrame, hf, hp]⟩)
    · exact .inr (.inr ⟨rfl, by simp, by simp [completeFrame, hf, hp]⟩)
    · exact .inr (.inr ⟨rfl, by simp, by simp [completeFrame, hf, hp]⟩)
  · exact .inl ⟨rfl, by simp [completeFrame, hf]⟩

/-- The two things a WAIT step can do (R176). -/
theorem waitStep_cases (s : State) :
    (s.ports.timerExpired = false ∧ waitStep s = s) ∨
      (s.ports.timerExpired = true ∧ waitStep s = { s with txWord := s.cfg, phase := .final, seq := .txBegin }) := by
  cases h : s.ports.timerExpired
  · exact .inl ⟨rfl, by simp [waitStep, h]⟩
  · exact .inr ⟨rfl, by simp [waitStep, h]⟩

/-! ## The step -/

theorem step_of_reset {s : State} (h : s.ports.reset = true) : step s = .next (advance (resetStep s)) := by
  simp [step, h, advanceResult]

theorem step_of_quiet {s : State} (h : s.ports.reset = false) : step s = advanceResult (seqStep s) := by
  simp [step, h]

theorem idleStep_none {s : State} (h : s.presented = none) : idleStep s = .next s := by
  simp [idleStep, h]

theorem idleStep_error {s : State} {w : CommandWord} {r : Reject} (h : s.presented = some w) (hd : decode w = .error r) :
    idleStep s = .next (acceptIllegal s) := by
  simp [idleStep, h, hd]

theorem idleStep_ok {s : State} {w : CommandWord} {i : Instr} (h : s.presented = some w) (hd : decode w = .ok i) :
    idleStep s = exec i s := by
  simp [idleStep, h, hd]

end Sys2Proof.Machine
end

