-- ==== Sys2Proof/Laws/PerInstr.lean ====
section
/-! SUPPORT. Facts about every command as a word, one lemma per constructor of `Instr`. -/

namespace Sys2Proof.Laws

/-! ## The fields of a packed word (spec/30_encoding.md R71) -/

theorem opField_packWord (op : BitVec 4) (a : Nat) (d : Sample) : opField (packWord op a d) = op := by
  apply BitVec.eq_of_getLsbD_eq
  intro i hi
  interval_cases i <;> simp [opField, packWord]

theorem rsvField_packWord (op : BitVec 4) (a : Nat) (d : Sample) : rsvField (packWord op a d) = 0 := by
  apply BitVec.eq_of_getLsbD_eq
  intro i hi
  interval_cases i <;> simp [rsvField, packWord]

theorem argField_packWord (op : BitVec 4) (a : Nat) (d : Sample) : argField (packWord op a d) = BitVec.ofNat 8 a := by
  apply BitVec.eq_of_getLsbD_eq
  intro i hi
  interval_cases i <;> simp [argField, packWord]

theorem dataField_packWord (op : BitVec 4) (a : Nat) (d : Sample) : dataField (packWord op a d) = d := by
  apply BitVec.eq_of_getLsbD_eq
  intro i hi
  interval_cases i <;> simp [dataField, packWord]

namespace EncodedFields

/-- The opcode of a command (R72). -/
def opcodeOf : Instr → BitVec 4
  | .init => 0x1
  | .setRate _ => 0x2
  | .setGain _ => 0x3
  | .setMux _ => 0x4
  | .setOpmode _ => 0x5
  | .setPullup _ => 0x6
  | .readAdc _ => 0x7
  | .readMv _ => 0x8
  | .readAdcNw => 0x9
  | .readMvNw => 0xA
  | .readRaw => 0xB
  | .readTemp => 0xC
  | .latency _ => 0xD
  | .scaleMv _ _ => 0xE
  | .scaleTemp _ => 0xF

/-- The word of a command has its opcode and a zero `rsv` field (R71, R72). -/
def Statement (i : Instr) : Prop := opField (encode i) = opcodeOf i ∧ rsvField (encode i) = 0

theorem init : Statement (.init) :=
  ⟨opField_packWord _ _ _, rsvField_packWord _ _ _⟩
theorem setRate (a : Nat) : Statement (.setRate a) :=
  ⟨opField_packWord _ _ _, rsvField_packWord _ _ _⟩
theorem setGain (a : Nat) : Statement (.setGain a) :=
  ⟨opField_packWord _ _ _, rsvField_packWord _ _ _⟩
theorem setMux (a : Nat) : Statement (.setMux a) :=
  ⟨opField_packWord _ _ _, rsvField_packWord _ _ _⟩
theorem setOpmode (a : Nat) : Statement (.setOpmode a) :=
  ⟨opField_packWord _ _ _, rsvField_packWord _ _ _⟩
theorem setPullup (a : Nat) : Statement (.setPullup a) :=
  ⟨opField_packWord _ _ _, rsvField_packWord _ _ _⟩
theorem readAdc (a : Nat) : Statement (.readAdc a) :=
  ⟨opField_packWord _ _ _, rsvField_packWord _ _ _⟩
theorem readMv (a : Nat) : Statement (.readMv a) :=
  ⟨opField_packWord _ _ _, rsvField_packWord _ _ _⟩
theorem readAdcNw : Statement (.readAdcNw) :=
  ⟨opField_packWord _ _ _, rsvField_packWord _ _ _⟩
theorem readMvNw : Statement (.readMvNw) :=
  ⟨opField_packWord _ _ _, rsvField_packWord _ _ _⟩
theorem readRaw : Statement (.readRaw) :=
  ⟨opField_packWord _ _ _, rsvField_packWord _ _ _⟩
theorem readTemp : Statement (.readTemp) :=
  ⟨opField_packWord _ _ _, rsvField_packWord _ _ _⟩
theorem latency (a : Nat) : Statement (.latency a) :=
  ⟨opField_packWord _ _ _, rsvField_packWord _ _ _⟩
theorem scaleMv (a : Nat) (d : Sample) : Statement (.scaleMv a d) :=
  ⟨opField_packWord _ _ _, rsvField_packWord _ _ _⟩
theorem scaleTemp (d : Sample) : Statement (.scaleTemp d) :=
  ⟨opField_packWord _ _ _, rsvField_packWord _ _ _⟩

end EncodedFields

end Sys2Proof.Laws
end

