-- ==== Sys2Proof/Tests/Slice0.lean ====
section
/-! SUPPORT. The model's own tests. Expected values come from spec/95_test_vectors.md (ids V<n>, programs P<n>) or are read
off spec/30_encoding.md; `test_witness_<Name>` gives states and operands that meet the hypotheses of the obligation. -/

namespace Sys2Proof.Tests

open Sys2Proof Sys2Proof.Machine

/-! ## Ports and states -/

def idlePorts : Ports := { reset := false, cmdValid := false, cmdWord := 0, drdyN := true, xfer := .pending, timerExpired := false }
def commandPorts (w : CommandWord) : Ports := { idlePorts with cmdValid := true, cmdWord := w }
def readyPorts (w : CommandWord) : Ports := { commandPorts w with drdyN := false }
def bytePorts (b : Byte) : Ports := { idlePorts with xfer := .byte b }
def failPorts : Ports := { idlePorts with xfer := .fail }
def timerPorts : Ports := { idlePorts with timerExpired := true }
def resetPorts : Ports := { idlePorts with reset := true }

/-- The reset state with the coming port levels. -/
def fresh (env : List Ports) : State := { State.reset with env := env }

/-- An idle state that holds a configuration and a last mode. -/
def holding (cfg : ConfigWord) (m : LastMode) (env : List Ports) : State := { fresh env with cfg := cfg, lastMode := m }

/-- A state inside a frame of a READ_ADC of channel 4 from reset. -/
def inDiscard (seq : Seq) (k : Fin 4) (env : List Ports) : State :=
  { fresh env with
    seq := seq, phase := .discard, byteIdx := k, txWord := 0xB0F9, curOp := 0x7, reqMode := .adc, reqChan := 4, csN := false }

/-- A state at the end of the frame of a command. -/
def atEnd (op : BitVec 4) (ph : Phase) (cfg : ConfigWord) (rx : BitVec 32) (fail : Bool) : State :=
  { holding cfg .adc [idlePorts] with
    seq := .txEnd, phase := ph, byteIdx := 3, txWord := cfg, curOp := op, csN := false, rxBuf := rx, txFail := fail }

/-- Status, raw, value, configuration and last mode of an outcome. -/
def view : Result → Option (Status × BitVec 16 × Int × ConfigWord × LastMode)
  | .next t => some (t.rspStatus, t.rspRaw, t.rspValue.toInt, t.cfg, t.lastMode)
  | .fault _ => none
  | .refused _ => none

/-- Sequencer state, phase and transmitted word of an outcome. -/
def frameView : Result → Option (Seq × Phase × ConfigWord)
  | .next t => some (t.seq, t.phase, t.txWord)
  | .fault _ => none
  | .refused _ => none

/-! ## Well-formedness: an operand above 255 fits no word (R82) -/

theorem test_wf_refuses_setRate : (Instr.setRate 256).wellFormed = false := by decide
theorem test_wf_refuses_setGain : (Instr.setGain 256).wellFormed = false := by decide
theorem test_wf_refuses_setMux : (Instr.setMux 256).wellFormed = false := by decide
theorem test_wf_refuses_setOpmode : (Instr.setOpmode 256).wellFormed = false := by decide
theorem test_wf_refuses_setPullup : (Instr.setPullup 1000).wellFormed = false := by decide
theorem test_wf_refuses_readAdc : (Instr.readAdc 256).wellFormed = false := by decide
theorem test_wf_refuses_readMv : (Instr.readMv 256).wellFormed = false := by decide
theorem test_wf_refuses_latency : (Instr.latency 256).wellFormed = false := by decide
theorem test_wf_refuses_scaleMv : (Instr.scaleMv 256 0).wellFormed = false := by decide

/-! ## Decoding: words written bit by bit from R71 and R72, op rsv arg data -/

theorem test_decode_init : decode 0b0001_0000_00000000_0000000000000000#32 = .ok .init := by decide
theorem test_decode_setRate : decode 0b0010_0000_00000101_0000000000000000#32 = .ok (.setRate 5) := by decide
theorem test_decode_setGain : decode 0b0011_0000_00000010_0000000000000000#32 = .ok (.setGain 2) := by decide
theorem test_decode_setMux : decode 0b0100_0000_00000111_0000000000000000#32 = .ok (.setMux 7) := by decide
theorem test_decode_setOpmode : decode 0b0101_0000_00000001_0000000000000000#32 = .ok (.setOpmode 1) := by decide
theorem test_decode_setPullup : decode 0b0110_0000_00000000_0000000000000000#32 = .ok (.setPullup 0) := by decide
theorem test_decode_readAdc : decode 0b0111_0000_11111111_0000000000000000#32 = .ok (.readAdc 255) := by decide
theorem test_decode_readMv : decode 0b1000_0000_00000011_0000000000000000#32 = .ok (.readMv 3) := by decide
theorem test_decode_readAdcNw : decode 0b1001_0000_00000000_0000000000000000#32 = .ok .readAdcNw := by decide
theorem test_decode_readMvNw : decode 0b1010_0000_00000000_0000000000000000#32 = .ok .readMvNw := by decide
theorem test_decode_readRaw : decode 0b1011_0000_00000000_0000000000000000#32 = .ok .readRaw := by decide
theorem test_decode_readTemp : decode 0b1100_0000_00000000_0000000000000000#32 = .ok .readTemp := by decide
theorem test_decode_latency : decode 0b1101_0000_00001000_0000000000000000#32 = .ok (.latency 8) := by decide
theorem test_decode_scaleMv : decode 0b1110_0000_00000001_1000000000000001#32 = .ok (.scaleMv 1 0x8001) := by decide
theorem test_decode_scaleTemp : decode 0b1111_0000_00000000_1111111111111000#32 = .ok (.scaleTemp 0xFFF8) := by decide

/-- V70, V71, V72, V73. -/
theorem test_decode_illegal :
    decode 0x00000000 = .error .opcodeZero ∧ decode 0x21070000 = .error .rsvNonZero ∧
      decode 0x10010000 = .error .argNonZero ∧ decode 0x20070001 = .error .dataNonZero := by decide
/-- V74, V75. -/
theorem test_decode_illegal_arg :
    decode 0x90010000 = .error .argNonZero ∧ decode 0xF001FFF8 = .error .argNonZero := by decide
/-- R82: a signed decimal is written as its 16-bit pattern; outside the ranges the assembler rejects. -/
theorem test_assemble_data :
    assemble "SCALE_TEMP" [-8] = some (.scaleTemp 0xFFF8) ∧ assemble "SCALE_MV" [2, 0x4000] = some (.scaleMv 2 0x4000) ∧
      assemble "SCALE_TEMP" [-32769] = none ∧ assemble "READ_ADC" [256] = none := by decide

/-- R82's own examples, and program P2's second line with a comment. -/
theorem test_assemble_lines :
    assembleLine ['I', 'N', 'I', 'T'] = some [.init] ∧
      assembleLine ['R', 'E', 'A', 'D', '_', 'A', 'D', 'C', ' ', '4'] = some [.readAdc 4] ∧
      assembleLine ['S', 'C', 'A', 'L', 'E', '_', 'M', 'V', ' ', '2', ',', ' ', '0', 'x', '4', '0', '0', '0'] =
        some [.scaleMv 2 0x4000] ∧
      assembleLine ['S', 'E', 'T', '_', 'G', 'A', 'I', 'N', ' ', '2', ' ', ' ', ';', ' ', '0'] = some [.setGain 2] ∧
      assembleLine ['S', 'C', 'A', 'L', 'E', '_', 'T', 'E', 'M', 'P', ' ', '-', '8'] = some [.scaleTemp 0xFFF8] ∧
      assembleLine ['L', 'A', 'T', 'E', 'N', 'C', 'Y', ' ', '2', '5', '6'] = none := by decide
/-- Two lines as words. -/
theorem test_assemble_text :
    assembleText ['I', 'N', 'I', 'T', '\n', 'S', 'E', 'T', '_', 'M', 'U', 'X', ' ', '0', 'x', '7'] =
      some [0x10000000, 0x40070000] := by decide

/-! ## One step per command -/

/-- V91. -/
theorem test_init : view (step (holding 0x8000 .adc [commandPorts 0x10000000])) = some (.ok, 0xB0F1, 0, 0xB0F1, .uninitialized) := by
  decide
/-- V10. -/
theorem test_setRate : view (step (fresh [commandPorts 0x20070000])) = some (.ok, 0xB7F1, 0, 0xB7F1, .uninitialized) := by decide
/-- V22. -/
theorem test_setRate_range : view (step (fresh [commandPorts 0x20FF0000])) = some (.outOfRange, 0, 0, 0xB0F1, .uninitialized) := by
  decide
/-- V19. -/
theorem test_setGain : view (step (holding 0xB0F9 .adc [commandPorts 0x30020000])) = some (.ok, 0xB0A9, 0, 0xB0A9, .adc) := by decide
/-- V20. -/
theorem test_setGain_range : view (step (fresh [commandPorts 0x30080000])) = some (.outOfRange, 0, 0, 0xB0F1, .uninitialized) := by
  decide
/-- V14. -/
theorem test_setMux : view (step (fresh [commandPorts 0x40070000])) = some (.ok, 0xB0FF, 0, 0xB0FF, .uninitialized) := by decide
/-- V21. -/
theorem test_setMux_range : view (step (fresh [commandPorts 0x40080000])) = some (.outOfRange, 0, 0, 0xB0F1, .uninitialized) := by
  decide
/-- V15. -/
theorem test_setOpmode : view (step (fresh [commandPorts 0x50000000])) = some (.ok, 0xB071, 0, 0xB071, .uninitialized) := by decide
/-- V23. -/
theorem test_setOpmode_range : view (step (fresh [commandPorts 0x50020000])) = some (.outOfRange, 0, 0, 0xB0F1, .uninitialized) := by
  decide
/-- V17. -/
theorem test_setPullup : view (step (fresh [commandPorts 0x60000000])) = some (.ok, 0xA0F1, 0, 0xA0F1, .uninitialized) := by decide
/-- V24. -/
theorem test_setPullup_range : view (step (fresh [commandPorts 0x60020000])) = some (.outOfRange, 0, 0, 0xB0F1, .uninitialized) := by
  decide
/-- V30. -/
theorem test_latency : view (step (fresh [commandPorts 0xD0000000])) = some (.ok, 0x7D, 125, 0xB0F1, .uninitialized) := by decide
/-- V38. -/
theorem test_latency_range : view (step (fresh [commandPorts 0xD0080000])) = some (.outOfRange, 0, 0, 0xB0F1, .uninitialized) := by
  decide
/-- V41. -/
theorem test_scaleMv_least : view (step (fresh [commandPorts 0xE0008000])) = some (.ok, 0x8000, -786432, 0xB0F1, .uninitialized) := by
  decide
/-- V46. -/
theorem test_scaleMv : view (step (fresh [commandPorts 0xE0031234])) = some (.ok, 0x1234, 18640, 0xB0F1, .uninitialized) := by decide
/-- V61. -/
theorem test_scaleTemp : view (step (fresh [commandPorts 0xF000FE70])) = some (.ok, 0xFE70, -400, 0xB0F1, .uninitialized) := by decide
/-- P1: the discard frame of READ_ADC 4 sends 0xB0F9. -/
theorem test_readAdc : frameView (step (fresh [commandPorts 0x70040000])) = some (.txBegin, .discard, 0xB0F9) := by decide
/-- V77. -/
theorem test_readAdc_range : view (step (fresh [commandPorts 0x70080000])) = some (.outOfRange, 0, 0, 0xB0F1, .uninitialized) := by
  decide
/-- R180, D27: READ_ADC 8 and READ_MV 8 leave `curOp`; program P2: SET_GAIN 8 writes it. -/
theorem test_curOp_range :
    (match step (fresh [commandPorts 0x70080000]), step (fresh [commandPorts 0x80FF0000]), step (fresh [commandPorts 0x30080000]) with
      | .next t, .next u, .next v => decide (t.curOp = 0 ∧ u.curOp = 0 ∧ v.curOp = 0x3)
      | _, _, _ => false) = true := by decide
/-- V94: from temperature mode the mode differs though the channel is equal. -/
theorem test_readMv : frameView (step (holding 0xB8F1 .temperature [commandPorts 0x80000000])) = some (.txBegin, .discard, 0xB0F1) := by
  decide
/-- P2: READ_MV with gain 2 and sample 0x4000. -/
theorem test_readMv_value : view (step (atEnd 0x8 .final 0xB0A1 0x4000B0A1 false)) = some (.ok, 0x4000, 131072, 0xB0A1, .adc) := by
  decide
/-- R181: the line is deasserted. -/
theorem test_readAdcNw_notReady : view (step (fresh [commandPorts 0x90000000])) = some (.notReady, 0, 0, 0xB0F1, .uninitialized) := by
  decide
/-- R181: the line is asserted, the frame sends `cfg`. -/
theorem test_readAdcNw : frameView (step (holding 0xB0F9 .adc [readyPorts 0x90000000])) = some (.txBegin, .nowait, 0xB0F9) := by decide
/-- V92: the value. -/
theorem test_readMvNw_value : view (step (atEnd 0xA .nowait 0xB0F9 0xFF00B0F9 false)) = some (.ok, 0xFF00, -256, 0xB0F9, .adc) := by
  decide
/-- R232: HAS_DRDY false always gives NOT_READY. -/
theorem test_readMvNw_unwired :
    view (step { fresh [readyPorts 0xA0000000] with hasDrdy := false }) = some (.notReady, 0, 0, 0xB0F1, .uninitialized) := by decide
/-- V88: no discard frame. -/
theorem test_readRaw : frameView (step (holding 0xB0F9 .adc [commandPorts 0xB0000000])) = some (.wait, .final, 0) := by decide
/-- V89: mode ADC from `cfg.sensor = 0`, mux 5 kept: 0xB0F1 with mux 5 is 0xB0FB. -/
theorem test_readRaw_first :
    frameView (step (holding 0xB0FB .uninitialized [commandPorts 0xB0000000])) = some (.txBegin, .discard, 0xB0FB) := by decide
/-- V93: the discard frame sends 0xB8F1. -/
theorem test_readTemp : frameView (step (fresh [commandPorts 0xC0000000])) = some (.txBegin, .discard, 0xB8F1) := by decide
/-- V93: the value. -/
theorem test_readTemp_value : view (step (atEnd 0xC .final 0xB8F1 0x0190B8F1 false)) = some (.ok, 0x0190, 400, 0xB8F1, .adc) := by
  decide

/-! ## The codec, the transfer and the reset -/

/-- V4, V5, V9. -/
theorem test_codec :
    encodeFields { noop := 3, pullup := 1, sensor := 1, rate := 7, opmode := 1, gain := 7, mux := 7, start := 1 } = 0xFFFF ∧
      encodeFields { noop := 0, pullup := 0, sensor := 0, rate := 0, opmode := 0, gain := 0, mux := 0, start := 0 } = 0x8000 ∧
      decodeFields 0x9234 = (1, { noop := 0, pullup := 1, sensor := 0, rate := 2, opmode := 0, gain := 3, mux := 2, start := 0 }) := by
  decide
/-- V52: the byte of transfer 1. -/
theorem test_transfer :
    (match step { inDiscard .txXfer 1 [bytePorts 0xF0] with rxBuf := 0x7F000000 } with
      | .next t => decide (t.rxBuf = 0x7FF00000 ∧ t.byteIdx = 2 ∧ t.events = [.busXfer 0xF9])
      | .fault _ => false
      | .refused _ => false) = true := by decide
/-- V97. -/
theorem test_reset_in_frame :
    (match step (inDiscard .txXfer 2 [resetPorts]) with
      | .next t => decide (t.seq = .idle ∧ t.csN = true ∧ t.events = [.csDeassert] ∧ t.rspValid = false)
      | .fault _ => false
      | .refused _ => false) = true := by decide
/-- R35, R250: the output codes. -/
theorem test_output_codes :
    State.reset.cmdReady = true ∧ State.reset.lastModeQ = 0b10 ∧ State.reset.cfgQ = 0xB0F1 ∧
      (holding 0xB8F1 .temperature []).lastModeQ = 0b01 ∧ { State.reset with rspStatus := .illegal }.statusBits = 4 := by decide

/-! ## Witnesses: states and operands that meet the hypotheses of the obligations -/

/-- Both ends of the operand range are well-formed. -/
theorem test_witness_DecodeInvertsEncode :
    (Instr.readAdc 0).wellFormed = true ∧ (Instr.readAdc 255).wellFormed = true ∧ (Instr.scaleMv 255 0xFFFF).wellFormed = true := by
  decide

theorem test_witness_EveryWordIsOneCommandOrIllegal :
    decode 0x70FF0000 = .ok (.readAdc 255) ∧ ¬ illegalWord 0x70FF0000 ∧ ¬ illegalWord 0xF000FFFF := by
  refine ⟨by decide, ?_, ?_⟩ <;> unfold illegalWord <;> decide

/-- One illegal word for each of the four conditions of R74. -/
theorem test_witness_IllegalWordAnswersIllegal :
    ∀ w ∈ [0x00000000#32, 0x21070000#32, 0x10010000#32, 0x20070001#32],
      (fresh [commandPorts w]).seq = .idle ∧ commands (fresh [commandPorts w]).ports w ∧ illegalWord w := by
  intro w hw
  refine ⟨rfl, ⟨rfl, rfl, rfl⟩, ?_⟩
  simp only [List.mem_cons, List.not_mem_nil, or_false] at hw
  rcases hw with rfl | rfl | rfl | rfl <;> unfold illegalWord <;> decide

theorem test_witness_AssembledCommandDecodesBack :
    assemble "READ_ADC" [255] = some (.readAdc 255) ∧ assemble "SCALE_TEMP" [-32768] = some (.scaleTemp 0x8000) ∧
      assembleText ['R', 'E', 'A', 'D', '_', 'R', 'A', 'W', ';'] = some [0xB0000000] := by decide

theorem test_witness_StepRunsDecodedCommand :
    (fresh [commandPorts 0x70040000]).seq = .idle ∧ commands (fresh [commandPorts 0x70040000]).ports 0x70040000 ∧
      decode 0x70040000 = .ok (.readAdc 4) ∧ decodeTableWord 32 0x70040000 = some (.readAdc 4) :=
  ⟨rfl, ⟨rfl, rfl, rfl⟩, by decide, by decide⟩

theorem test_witness_ResetStepSetsEveryElement : (inDiscard .txXfer 3 [resetPorts]).ports.reset = true := rfl

/-- A reset in an open frame and one in WAIT, each followed by a step in which the timer expires. -/
theorem test_witness_ResetCutsTheSequence :
    (inDiscard .txXfer 2 [resetPorts, timerPorts]).env = [resetPorts, timerPorts] ∧
      (inDiscard .wait 3 [resetPorts, timerPorts]).env = [resetPorts, timerPorts] ∧ resetPorts.reset = true ∧
      quiet timerPorts ∧ timerPorts.cmdValid = false := ⟨rfl, rfl, rfl, rfl, rfl⟩

/-- A step that takes a command, and the two ways of a step that takes none. -/
theorem test_witness_AcceptsExactlyWhenIdleAndValid :
    quiet (commandPorts 0x10000000) ∧
      ((fresh [commandPorts 0x10000000]).seq = .idle ∧ (fresh [commandPorts 0x10000000]).ports.cmdValid = true) ∧
      ¬ ((fresh [idlePorts]).seq = .idle ∧ (fresh [idlePorts]).ports.cmdValid = true) ∧
      ¬ ((inDiscard .txXfer 0 [commandPorts 0x10000000]).seq = .idle ∧
        (inDiscard .txXfer 0 [commandPorts 0x10000000]).ports.cmdValid = true) := by
  refine ⟨rfl, ⟨rfl, rfl⟩, ?_, ?_⟩ <;> decide

theorem test_witness_BlockHoldsWithoutItsInput :
    quiet idlePorts ∧ ((fresh [idlePorts]).seq = .idle ∧ (fresh [idlePorts]).ports.cmdValid = false) ∧
      ((inDiscard .txXfer 0 [idlePorts]).seq = .txXfer ∧ (inDiscard .txXfer 0 [idlePorts]).ports.xfer = .pending) ∧
      ((inDiscard .wait 3 [idlePorts]).seq = .wait ∧ (inDiscard .wait 3 [idlePorts]).ports.timerExpired = false) :=
  ⟨rfl, ⟨rfl, rfl⟩, ⟨rfl, rfl⟩, ⟨rfl, rfl⟩⟩

/-- A step that takes a next state: a hold in IDLE. -/
theorem test_witness_next : step (fresh [idlePorts]) = .next (passed (fresh [idlePorts])) := rfl
theorem test_witness_EveryStepUsesUpItsPorts : ∃ s t, step s = .next t := ⟨_, _, test_witness_next⟩
theorem test_witness_ParametersNeverChange : ∃ s t, step s = .next t := ⟨_, _, test_witness_next⟩

/-- Words of each operand form with every unused field 0, and with one that is not (the hypotheses of `encodesAs`). -/
theorem test_witness_encodesAs :
    (∀ w ∈ [0x10000000#32, 0x90000000#32, 0xA0000000#32, 0xB0000000#32, 0xC0000000#32],
      w.extractLsb' 24 4 = 0 ∧ w.extractLsb' 16 8 = 0 ∧ w.extractLsb' 0 16 = 0) ∧
    (∀ w ∈ [0x20FF0000#32, 0x30070000#32, 0x40000000#32, 0x50010000#32, 0x60010000#32, 0x70070000#32, 0x80070000#32, 0xD0070000#32],
      w.extractLsb' 24 4 = 0 ∧ w.extractLsb' 0 16 = 0) ∧
    (0xE00700FF#32).extractLsb' 24 4 = 0 ∧
    ((0xF000FFFF#32).extractLsb' 24 4 = 0 ∧ (0xF000FFFF#32).extractLsb' 16 8 = 0) ∧
    (∀ w ∈ [0x1000FFFF#32, 0x21000000#32, 0x7F000000#32, 0x90010000#32, 0xD0000001#32, 0xE1000000#32, 0xF0010000#32],
      ¬ (w.extractLsb' 24 4 = 0 ∧ w.extractLsb' 16 8 = 0 ∧ w.extractLsb' 0 16 = 0)) := by
  refine ⟨?_, ?_, by decide, by decide, ?_⟩ <;> simp only [List.forall_mem_cons, List.not_mem_nil, false_implies, implies_true] <;>
    decide

/-- The operands at the ends of the two clauses of every setter and of LATENCY, SCALE_MV, READ_ADC and READ_MV. -/
theorem test_witness_operand_ranges : (7 : Nat) ≤ 7 ∧ (7 : Nat) < 8 ∧ (1 : Nat) ≤ 1 ∧ (1 : Nat) < 2 := by decide

/-- Each family member of the statement on the setters is reached. -/
theorem test_witness_SettersKeepEveryOtherField :
    ∃ (mk : Nat → Instr) (max : Nat) (upd : Nat → Fields → Fields),
      (mk, max, upd) ∈ ([(.setRate, 7, fun a f => { f with rate := BitVec.ofNat 3 a }),
        (.setGain, 7, fun a f => { f with gain := BitVec.ofNat 3 a }),
        (.setMux, 7, fun a f => { f with mux := BitVec.ofNat 3 a }),
        (.setOpmode, 1, fun a f => { f with opmode := BitVec.ofNat 1 a }),
        (.setPullup, 1, fun a f => { f with pullup := BitVec.ofNat 1 a })] :
          List ((Nat → Instr) × Nat × (Nat → Fields → Fields))) ∧ 1 ≤ max ∧ max < 2 :=
  ⟨.setPullup, 1, fun a f => { f with pullup := BitVec.ofNat 1 a },
    .tail _ (.tail _ (.tail _ (.tail _ (.head _)))), by decide, by decide⟩

/-- V80, V81, V83, V86: a change; V82, V87: none. -/
theorem test_witness_changeNeeded :
    changeNeeded .adc 0 (fresh []) ∧ changeNeeded .temperature 0 (fresh []) ∧ changeNeeded .adc 0 (holding 0xB0F9 .adc []) ∧
      changeNeeded .adc 0 (holding 0xB8F1 .temperature []) ∧ ¬ changeNeeded .adc 4 (holding 0xB0F9 .adc []) ∧
      ¬ changeNeeded .temperature 0 (holding 0xB8F7 .temperature []) := by
  refine ⟨?_, ?_, ?_, ?_, ?_, ?_⟩ <;> unfold changeNeeded <;> decide

/-- The three cases of READ_RAW. -/
theorem test_witness_ReadRawStartsAndDelivers :
    (holding 0xB0F9 .adc []).lastMode = .adc ∧ (holding 0xB8F1 .temperature []).lastMode = .temperature ∧
      (fresh []).lastMode = .uninitialized := ⟨rfl, rfl, rfl⟩

/-- The line asserted, deasserted, and not wired. -/
theorem test_witness_nonBlockingStart :
    ((fresh [readyPorts 0x90000000]).hasDrdy = true ∧ (fresh [readyPorts 0x90000000]).ports.drdyN = false) ∧
      ¬ ((fresh [commandPorts 0x90000000]).hasDrdy = true ∧ (fresh [commandPorts 0x90000000]).ports.drdyN = false) ∧
      ¬ ({ fresh [readyPorts 0x90000000] with hasDrdy := false }.hasDrdy = true ∧
        { fresh [readyPorts 0x90000000] with hasDrdy := false }.ports.drdyN = false) := by
  refine ⟨⟨rfl, rfl⟩, ?_, ?_⟩ <;> decide

/-- The end of a terminal frame of every acquisition, successful and failed. -/
theorem test_witness_completion :
    ∀ op ∈ [0x7#4, 0x8#4, 0x9#4, 0xA#4, 0xB#4, 0xC#4], ∀ ph ∈ [Phase.final, Phase.nowait], ∀ fail ∈ [false, true],
      quiet (atEnd op ph 0xB0F1 0 fail).ports ∧ (atEnd op ph 0xB0F1 0 fail).seq = .txEnd ∧
        (atEnd op ph 0xB0F1 0 fail).curOp = op ∧ (atEnd op ph 0xB0F1 0 fail).phase ≠ .discard ∧
        (atEnd op ph 0xB0F1 0 fail).txFail = fail := by decide

theorem test_witness_TxBeginOpensTheFrame :
    quiet (inDiscard .txBegin 0 [idlePorts]).ports ∧ (inDiscard .txBegin 0 [idlePorts]).seq = .txBegin := ⟨rfl, rfl⟩

/-- The first and the last transfer of a frame, answered. -/
theorem test_witness_XferStoresTheByteReceived :
    ∀ k ∈ [(0 : Fin 4), 1, 2, 3], answers (inDiscard .txXfer k [bytePorts 0x12]).ports 0x12 ∧
      (inDiscard .txXfer k [bytePorts 0x12]).seq = .txXfer ∧
      ((inDiscard .txXfer k [bytePorts 0x12]).byteIdx.val < 3 ∨ (inDiscard .txXfer k [bytePorts 0x12]).byteIdx.val = 3) := by
  decide

theorem test_witness_XferFailureEndsTheFrame :
    quiet (inDiscard .txXfer 3 [failPorts]).ports ∧ (inDiscard .txXfer 3 [failPorts]).ports.xfer = .fail ∧
      (inDiscard .txXfer 3 [failPorts]).seq = .txXfer := ⟨rfl, rfl, rfl⟩

/-- A failed frame, a discard frame and a terminal frame of an acquisition at their ends. -/
theorem test_witness_FrameEndFailsCommitsOrDelivers :
    quiet (atEnd 0x7 .discard 0xB0F9 0 true).ports ∧ (atEnd 0x7 .discard 0xB0F9 0 true).seq = .txEnd ∧
      (atEnd 0x7 .discard 0xB0F9 0 true).txFail = true ∧ (atEnd 0x7 .discard 0xB0F9 0 false).txFail = false ∧
      (atEnd 0x7 .discard 0xB0F9 0 false).phase = .discard ∧ (atEnd 0x8 .final 0xB0A1 0x4000B0A1 false).phase ≠ .discard ∧
      deliveredInt 0x8 0x4000 0xB0A1 = some 131072 ∧ deliveredInt 0xC 0xFF00 0xB8F1 = some (-256) := by decide

theorem test_witness_WaitEndsAtTheExpiry :
    quiet (inDiscard .wait 3 [timerPorts]).ports ∧ (inDiscard .wait 3 [timerPorts]).seq = .wait ∧
      (inDiscard .wait 3 [timerPorts]).ports.timerExpired = true ∧ (inDiscard .wait 3 [idlePorts]).ports.timerExpired = false :=
  ⟨rfl, rfl, rfl, rfl⟩

/-- The port levels of a frame answered with four bytes. -/
def frameScript (b0 b1 b2 b3 : Byte) : List Ports :=
  [idlePorts, bytePorts b0, bytePorts b1, bytePorts b2, bytePorts b3, idlePorts]

/-- V50. -/
theorem test_witness_AnsweredFrameRunsToItsEnd :
    (inDiscard .txBegin 0 (frameScript 0x12 0x34 0xB0 0xF9)).seq = .txBegin ∧
      (inDiscard .txBegin 0 (frameScript 0x12 0x34 0xB0 0xF9)).env =
        idlePorts :: bytePorts 0x12 :: bytePorts 0x34 :: bytePorts 0xB0 :: bytePorts 0xF9 :: idlePorts :: [] ∧
      quiet idlePorts ∧ answers (bytePorts 0x12) 0x12 ∧ answers (bytePorts 0x34) 0x34 ∧ answers (bytePorts 0xB0) 0xB0 ∧
      answers (bytePorts 0xF9) 0xF9 := ⟨rfl, rfl, rfl, ⟨rfl, rfl⟩, ⟨rfl, rfl⟩, ⟨rfl, rfl⟩, ⟨rfl, rfl⟩⟩

/-- V52, and a failure on the first and on the last transfer. -/
theorem test_witness_FailedFrameIsCutAndClosed :
    List.Forall₂ answers [] [] ∧ List.Forall₂ answers [bytePorts 0x7F, bytePorts 0xF0] [0x7F, 0xF0] ∧
      List.Forall₂ answers [bytePorts 1, bytePorts 2, bytePorts 3] [1, 2, 3] ∧ [(1 : Byte), 2, 3].length ≤ 3 ∧
      (inDiscard .txBegin 0 (idlePorts :: ([bytePorts 0x7F, bytePorts 0xF0] ++ failPorts :: idlePorts :: []))).seq = .txBegin ∧
      quiet idlePorts ∧ quiet failPorts ∧ failPorts.xfer = .fail :=
  ⟨.nil, .cons ⟨rfl, rfl⟩ (.cons ⟨rfl, rfl⟩ .nil), .cons ⟨rfl, rfl⟩ (.cons ⟨rfl, rfl⟩ (.cons ⟨rfl, rfl⟩ .nil)), by decide, rfl,
    rfl, rfl, rfl⟩

/-- P1: READ_ADC 4 from reset, with its two frames. -/
theorem test_witness_BlockingReadWithDiscardDelivers :
    (fresh (commandPorts 0x70040000 :: frameScript 0xAA 0xBB 0xB0 0xF1 ++ timerPorts :: frameScript 0x12 0x34 0xB0 0xF9)).env =
        commandPorts 0x70040000 :: idlePorts :: bytePorts 0xAA :: bytePorts 0xBB :: bytePorts 0xB0 :: bytePorts 0xF1 ::
          idlePorts :: timerPorts :: idlePorts :: bytePorts 0x12 :: bytePorts 0x34 :: bytePorts 0xB0 :: bytePorts 0xF9 ::
          idlePorts :: [] ∧
      (fresh []).seq = .idle ∧ blockingRequest (.readAdc 4) (fresh []) = some (0x7, .adc, 4) ∧ changeNeeded .adc 4 (fresh []) ∧
      commands (commandPorts 0x70040000) (encode (.readAdc 4)) ∧ quiet idlePorts ∧ answers (bytePorts 0xAA) 0xAA ∧
      quiet timerPorts ∧ timerPorts.timerExpired = true := by
  refine ⟨rfl, rfl, by decide, ?_, ⟨rfl, rfl, by decide⟩, rfl, ⟨rfl, rfl⟩, rfl, rfl⟩
  unfold changeNeeded
  decide

/-- The requests of the other blocking commands, at the ends of the channel range. -/
theorem test_witness_blockingRequest :
    blockingRequest (.readMv 7) (fresh []) = some (0x8, .adc, 7) ∧ blockingRequest (.readMv 8) (fresh []) = none ∧
      blockingRequest .readRaw (holding 0xB8F3 .temperature []) = some (0xB, .temperature, 1) ∧
      blockingRequest .readTemp (holding 0xB0F9 .adc []) = some (0xC, .temperature, 4) := by decide

/-- P1: the second READ_ADC 4. -/
theorem test_witness_BlockingReadWithoutDiscardDelivers :
    (holding 0xB0F9 .adc (commandPorts 0x70040000 :: timerPorts :: frameScript 0x12 0x40 0xB0 0xF9)).env =
        commandPorts 0x70040000 :: timerPorts :: idlePorts :: bytePorts 0x12 :: bytePorts 0x40 :: bytePorts 0xB0 ::
          bytePorts 0xF9 :: idlePorts :: [] ∧
      (holding 0xB0F9 .adc []).seq = .idle ∧
      blockingRequest (.readAdc 4) (holding 0xB0F9 .adc []) = some (0x7, .adc, 4) ∧
      ¬ changeNeeded .adc 4 (holding 0xB0F9 .adc []) ∧ commands (commandPorts 0x70040000) (encode (.readAdc 4)) ∧
      quiet timerPorts ∧ timerPorts.timerExpired = true ∧ answers (bytePorts 0x12) 0x12 := by
  refine ⟨rfl, rfl, by decide, ?_, ⟨rfl, rfl, by decide⟩, rfl, rfl, ⟨rfl, rfl⟩⟩
  unfold changeNeeded
  decide

/-- V92. -/
theorem test_witness_NonBlockingReadDelivers :
    (Instr.readMvNw, 0xA#4) ∈ [(Instr.readAdcNw, 0x9#4), (Instr.readMvNw, 0xA#4)] ∧ (holding 0xB0F9 .adc []).seq = .idle ∧
      (holding 0xB0F9 .adc []).hasDrdy = true ∧
      (holding 0xB0F9 .adc (readyPorts 0xA0000000 :: frameScript 0xFF 0x00 0xB0 0xF9)).env =
        readyPorts 0xA0000000 :: idlePorts :: bytePorts 0xFF :: bytePorts 0x00 :: bytePorts 0xB0 :: bytePorts 0xF9 ::
          idlePorts :: [] ∧
      commands (readyPorts 0xA0000000) (encode .readMvNw) ∧ (readyPorts 0xA0000000).drdyN = false :=
  ⟨by decide, rfl, rfl, rfl, ⟨rfl, rfl, by decide⟩, rfl⟩

/-- A good state inside a discard frame, where every clause on a frame is in force. -/
theorem test_witness_inv_discard : (inDiscard .txXfer 2 [bytePorts 0x12]).Inv := by
  constructor <;> simp only [inDiscard, fresh, State.reset, heldWord, State.inFrame] <;> decide

/-- A good state in IDLE with a response held. -/
theorem test_witness_inv_idle : { holding 0xB0F9 .adc [idlePorts] with rspValid := true, rspRaw := 0x1234, curOp := 0x7 }.Inv := by
  constructor <;> simp only [holding, fresh, State.reset, heldWord, State.inFrame] <;> decide

theorem test_witness_EveryStepKeepsTheInvariant : ∃ s t, s.Inv ∧ quiet s.ports ∧ step s = .next t :=
  ⟨_, _, test_witness_inv_discard, rfl, rfl⟩

/-- A history in the middle of a frame. -/
theorem test_witness_EveryStepKeepsTheHistoryFramed :
    { inDiscard .txXfer 1 [bytePorts 0x12] with
      events := [.csAssert, .busBegin { clockHz := 400000, msbFirst := true, clockPolarity := 0, clockPhase := 1 },
        .busXfer 0xB0] }.HistoryFramed ∧ quiet (bytePorts 0x12) := by
  unfold State.HistoryFramed
  decide

/-- `lastMode` changed by INIT, by the commit, and by reset. -/
theorem test_witness_LastModeHasNoOtherWriter :
    (∃ t, step (holding 0xB0F9 .adc [commandPorts 0x10000000]) = .next t ∧ t.lastMode ≠ .adc) ∧
      (∃ t, step { inDiscard .txEnd 3 [idlePorts] with lastMode := .temperature } = .next t ∧ t.lastMode ≠ .temperature) ∧
      (∃ t, step (holding 0xB0F9 .adc [resetPorts]) = .next t ∧ t.lastMode ≠ .adc) :=
  ⟨⟨_, rfl, by decide⟩, ⟨_, rfl, by decide⟩, ⟨_, rfl, by decide⟩⟩

/-- `cfg.sensor` changed by a commit. -/
theorem test_witness_SensorNoopStartHaveNoSetter :
    ∃ s t, s.Inv ∧ step s = .next t ∧ t.cfg.getLsbD 11 ≠ s.cfg.getLsbD 11 := by
  refine ⟨{ inDiscard .txEnd 3 [idlePorts] with cfg := 0xB8F1, lastMode := .temperature }, _, ?_, rfl, by decide⟩
  constructor <;> simp only [inDiscard, fresh, State.reset, heldWord, State.inFrame] <;> decide

/-- A frame begun from IDLE. -/
theorem test_witness_FramesBeginOnlyFromIdleOrWait : ∃ s t, s.Inv ∧ step s = .next t ∧ t.seq = .txBegin := by
  refine ⟨holding 0xB0F9 .adc [commandPorts 0x70000000], _, ?_, rfl, by decide⟩
  constructor <;> simp only [holding, fresh, State.reset, heldWord, State.inFrame] <;> decide

/-- Each clause: presentations that differ in a port that the step does not read. -/
theorem test_witness_StepReadsOnlyThePortsOfItsState :
    resetPorts.reset = { resetPorts with cmdValid := true }.reset ∧ resetPorts.reset = true ∧
      idlePorts.reset = (commandPorts 0x10000000).reset ∧ idlePorts.xfer = timerPorts.xfer ∧
      timerPorts.timerExpired = { timerPorts with drdyN := false }.timerExpired ∧
      idlePorts.cmdValid = false ∧ timerPorts.cmdValid = false ∧
      (commandPorts 0x70040000).cmdWord = (readyPorts 0x70040000).cmdWord ∧
      (commandPorts 0x70040000).cmdWord ≠ 0x90000000 ∧ (commandPorts 0x70040000).cmdWord ≠ 0xA0000000 := by decide

/-- V20 and V70: an error in the accept step. -/
theorem test_witness_AcceptStepErrorsArePrecise :
    ∀ w ∈ [0x30080000#32, 0x00000000#32, 0x90000000#32], ∃ t, (fresh [commandPorts w]).seq = .idle ∧
      quiet (commandPorts w) ∧ (commandPorts w).cmdValid = true ∧ step (fresh [commandPorts w]) = .next t ∧ t.seq = .idle ∧
      t.rspStatus ≠ .ok := by
  intro w hw
  simp only [List.mem_cons, List.not_mem_nil, or_false] at hw
  rcases hw with rfl | rfl | rfl <;> exact ⟨_, rfl, rfl, rfl, rfl, by decide, by decide⟩

theorem test_witness_ResponseHeldUntilTheNextAccept :
    ∃ s t, s.Inv ∧ s.rspValid = true ∧ quiet s.ports ∧ s.ports.cmdValid = false ∧ step s = .next t :=
  ⟨_, _, test_witness_inv_idle, rfl, rfl, rfl, rfl⟩

/-- A Pending state, and a step that makes a result Ready. -/
theorem test_witness_TrustedResultOnlyFromATerminalFrame :
    (∃ s t, s.Inv ∧ quiet s.ports ∧ step s = .next t ∧ s.isPending = true) ∧
      (∃ s t, s.Inv ∧ quiet s.ports ∧ step s = .next t ∧ t.isReady = true ∧ s.isReady = false) := by
  refine ⟨⟨_, _, test_witness_inv_discard, rfl, rfl, by decide⟩,
    ⟨{ atEnd 0x7 .final 0xB0F9 0x1234B0F9 false with reqChan := 4 }, _, ?_, rfl, rfl, by decide, by decide⟩⟩
  constructor <;> simp only [atEnd, holding, fresh, State.reset, heldWord, State.inFrame] <;> decide

/-- V90. -/
theorem test_witness_SetMuxThenReadRunsNoDiscard :
    (7 : Nat) ≤ 7 ∧ (holding 0xB0F9 .adc [commandPorts 0x40070000, commandPorts 0x70070000]).seq = .idle ∧
      (holding 0xB0F9 .adc []).lastMode = .adc ∧ commands (commandPorts 0x40070000) (encode (.setMux 7)) ∧
      commands (commandPorts 0x70070000) (encode (.readAdc 7)) := by decide

/-- A failure on the first and on the last transfer of the discard frame of READ_ADC 4, and the command again. -/
theorem test_witness_FailedDiscardIsRepeated :
    (fresh []).seq = .idle ∧ blockingRequest (.readAdc 4) (fresh []) = some (0x7, .adc, 4) ∧ changeNeeded .adc 4 (fresh []) ∧
      (fresh [commandPorts 0x70040000, idlePorts, failPorts, idlePorts, commandPorts 0x70040000]).env =
        commandPorts 0x70040000 :: idlePorts :: ([] ++ failPorts :: idlePorts :: commandPorts 0x70040000 :: []) ∧
      List.Forall₂ answers [] [] ∧ List.Forall₂ answers [bytePorts 1, bytePorts 2, bytePorts 3] [1, 2, 3] ∧
      [(1 : Byte), 2, 3].length ≤ 3 ∧ commands (commandPorts 0x70040000) (encode (.readAdc 4)) ∧ quiet idlePorts ∧
      quiet failPorts ∧ failPorts.xfer = .fail := by
  refine ⟨rfl, by decide, ?_, rfl, .nil, .cons ⟨rfl, rfl⟩ (.cons ⟨rfl, rfl⟩ (.cons ⟨rfl, rfl⟩ .nil)), by decide,
    ⟨rfl, rfl, by decide⟩, rfl, rfl, rfl⟩
  unfold changeNeeded
  decide

/-- The ends of the operand ranges, operands just outside them, a wrong number of operands, a word that is no mnemonic, and a
line without a comment. -/
theorem test_witness_AssemblerFollowsItsForms :
    ("READ_RAW", Instr.readRaw) ∈ plainForms ∧ ((0 : Int) ≤ 0 ∧ (0 : Int) ≤ 255) ∧ ((0 : Int) ≤ 255 ∧ (255 : Int) ≤ 255) ∧
      ((-1 : Int) < 0 ∨ (255 : Int) < -1) ∧ ((256 : Int) < 0 ∨ (255 : Int) < 256) ∧
      ((-32768 : Int) ≤ -32768 ∧ (-32768 : Int) ≤ 65535) ∧ ((-32768 : Int) ≤ 65535 ∧ (65535 : Int) ≤ 65535) ∧
      ((-32769 : Int) < -32768 ∨ (65535 : Int) < -32769) ∧ ((65536 : Int) < -32768 ∨ (65535 : Int) < 65536) ∧
      ([] : List Int).length ≠ 1 ∧ [(1 : Int)].length ≠ 2 ∧
      "NOP" ∉ plainForms.map Prod.fst ++ argForms.map Prod.fst ++ ["SCALE_MV", "SCALE_TEMP"] ∧ ';' ∉ ['I', 'N', 'I', 'T'] := by
  decide

theorem test_witness_argForms : ("LATENCY", Instr.latency) ∈ argForms :=
  .tail _ (.tail _ (.tail _ (.tail _ (.tail _ (.tail _ (.tail _ (.head _)))))))

/-- A state for each code of the output ports. -/
theorem test_witness_OutputPortsShowTheState :
    (holding 0xB0F9 .adc []).lastMode = .adc ∧ (holding 0xB8F1 .temperature []).lastMode = .temperature ∧
      (fresh []).lastMode = .uninitialized ∧ (fresh []).rspStatus = .ok ∧
      { fresh [] with rspStatus := .illegal }.rspStatus = .illegal ∧ (fresh []).seq = .idle ∧
      (inDiscard .wait 3 []).seq ≠ .idle := by decide

end Sys2Proof.Tests
end

/-! # Proofs about the command word (spec/30_encoding.md) -/

section
namespace Sys2Proof.Proofs

open Sys2Proof.Machine

/-! ## What an accepted word's unused fields are -/

theorem formNone_ok_fields {w : CommandWord} {i j : Instr} (h : formNone w i = .ok j) :
    argField w = 0 ∧ dataField w = 0 := by
  unfold formNone at h
  split at h
  · cases h
  · split at h
    · cases h
    · exact ⟨not_not.mp ‹_›, not_not.mp ‹_›⟩

theorem formArg_ok_fields {w : CommandWord} {mk : Nat → Instr} {j : Instr} (h : formArg w mk = .ok j) :
    dataField w = 0 := by
  unfold formArg at h
  split at h
  · cases h
  · exact not_not.mp ‹_›

theorem formData_ok_fields {w : CommandWord} {mk : Sample → Instr} {j : Instr} (h : formData w mk = .ok j) :
    argField w = 0 := by
  unfold formData at h
  split at h
  · cases h
  · exact not_not.mp ‹_›

/-! ## What the decoder can do -/

/-- A word passes the decoder only with an opcode and a zero `rsv` field (R74). -/
theorem decode_ok_header {w : CommandWord} {i : Instr} (h : decode w = .ok i) : opField w ≠ 0 ∧ rsvField w = 0 := by
  unfold decode at h
  split at h
  · cases h
  · split at h
    · cases h
    · exact ⟨‹_›, not_not.mp ‹_›⟩

/-- Behind its opcode and `rsv` checks the decoder is one of the four forms of R71, by the opcode's columns in R72. -/
theorem decode_form {w : CommandWord} (hop : opField w ≠ 0) (hrsv : rsvField w = 0) :
    (opField w ∈ [0x1#4, 0x9#4, 0xA#4, 0xB#4, 0xC#4] ∧ ∃ i, decode w = formNone w i) ∨
    (opField w ∈ [0x2#4, 0x3#4, 0x4#4, 0x5#4, 0x6#4, 0x7#4, 0x8#4, 0xD#4] ∧ ∃ mk, decode w = formArg w mk) ∨
    (opField w = 0xE#4 ∧ decode w = formArgData w .scaleMv) ∨
    (opField w = 0xF#4 ∧ decode w = formData w .scaleTemp) := by
  have opField_eq {n : Nat} (h : (opField w).toNat = n) : opField w = BitVec.ofNat 4 n := by simp [← h]
  simp only [decode, hop, hrsv, ne_eq, not_true_eq_false, if_false]
  split
  case h_1 h | h_9 h | h_10 h | h_11 h | h_12 h => exact .inl ⟨by simp [opField_eq h], _, rfl⟩
  case h_2 h | h_3 h | h_4 h | h_5 h | h_6 h | h_7 h | h_8 h | h_13 h =>
    exact .inr (.inl ⟨by simp [opField_eq h], _, rfl⟩)
  case h_14 h => exact .inr (.inr (.inl ⟨opField_eq h, rfl⟩))
  case h_15 =>
    have hlt := (opField w).isLt
    have hpos : (opField w).toNat ≠ 0 := fun h => hop (opField_eq h)
    have hlast : (opField w).toNat = 0xF := by
      simp only [imp_false] at *
      omega
    exact .inr (.inr (.inr ⟨opField_eq hlast, rfl⟩))

/-- The decoder lets no word through that meets one of the four conditions of R74. -/
theorem not_illegalWord_of_decode_ok {w : CommandWord} {i : Instr} (h : decode w = .ok i) : ¬ illegalWord w := by
  obtain ⟨hop, hrsv⟩ := decode_ok_header h
  obtain ⟨-, j, e⟩ | ⟨hmem, mk, e⟩ | ⟨he, -⟩ | ⟨hf, e⟩ := decode_form hop hrsv
  · obtain ⟨harg, hdata⟩ := formNone_ok_fields (e ▸ h)
    simpa [illegalWord, hrsv, harg, hdata] using hop
  · have hdata := formArg_ok_fields (e ▸ h)
    have hused : opField w ∉ [0x1#4, 0x9#4, 0xA#4, 0xB#4, 0xC#4, 0xF#4] := by
      revert hmem
      generalize opField w = op
      revert op
      decide
    simpa [illegalWord, hrsv, hdata, hused] using hop
  · simp [illegalWord, he, hrsv]
  · have harg := formData_ok_fields (e ▸ h)
    simp [illegalWord, hf, hrsv, harg]

theorem decode_error_of_illegalWord {w : CommandWord} (h : illegalWord w) : ∃ r, decode w = .error r := by
  cases hd : decode w with
  | error r => exact ⟨r, rfl⟩
  | ok i => exact absurd h (not_illegalWord_of_decode_ok hd)

/-! ## The accept step of an illegal word -/

theorem seqStep_of_idle {s : State} (h : s.seq = .idle) : seqStep s = idleStep s := by
  simp [seqStep, h]

theorem step_of_decode_error {s : State} {w : CommandWord} {r : Reject} (hidle : s.seq = .idle)
    (hcmd : commands s.ports w) (hd : decode w = .error r) : step s = .next (advance (acceptIllegal s)) := by
  obtain ⟨hquiet, hvalid, hword⟩ := hcmd
  rw [step_of_quiet hquiet, seqStep_of_idle hidle, idleStep_error (presented_of_valid hvalid hword) hd]
  rfl

/-- Settles O6: the decoder rejects every word that meets a condition of R74, and the accept step of a rejected word writes
the response and the host's position alone. -/
theorem illegalWordAnswersIllegal : Obligations.IllegalWordAnswersIllegal := by
  intro s w hidle hcmd hill
  obtain ⟨r, hd⟩ := decode_error_of_illegalWord hill
  exact ⟨_, step_of_decode_error hidle hcmd hd, rfl⟩

end Sys2Proof.Proofs
end

/-! # Proofs about the configuration codec (spec/40_codec.md) -/

section
namespace Sys2Proof.Proofs

open Sys2Proof.Machine

/-! ## What the codec reads, as numbers (R101) -/

/-- The value of a bit slice: the word shifted down to the slice's lowest bit, cut to its width. -/
theorem toNat_slice (w : ConfigWord) (lsb len : Nat) :
    (w.extractLsb' lsb len).toNat = w.toNat / 2 ^ lsb % 2 ^ len := by
  rw [BitVec.extractLsb'_toNat, Nat.shiftRight_eq_div_pow]

/-- The reserved bit is the top bit, so the quotient alone is its value. -/
theorem toNat_decodeFields_reserved (w : ConfigWord) : (decodeFields w).1.toNat = w.toNat / 2 ^ 15 := by
  have hslice : (decodeFields w).1.toNat = w.toNat / 2 ^ 15 % 2 ^ 1 := toNat_slice w 15 1
  have hlt := w.isLt
  omega

/-- Settles O3: each member is a slice of the word, and the reserved bit is the slice with nothing above it. -/
theorem decodeReadsEveryBit : Obligations.DecodeReadsEveryBit := by
  refine ⟨fun w => ⟨toNat_decodeFields_reserved w, toNat_slice w 13 2, toNat_slice w 12 1, toNat_slice w 11 1,
    toNat_slice w 8 3, toNat_slice w 7 1, toNat_slice w 4 3, toNat_slice w 1 3, ?_⟩, by decide⟩
  calc (decodeFields w).2.start.toNat = w.toNat / 2 ^ 0 % 2 ^ 1 := toNat_slice w 0 1
    _ = w.toNat % 2 := by rw [pow_zero, Nat.div_one, pow_one]

/-- A word is the weighted sum of what `decode` reads from it: the slices of R78 cover all 16 bits without overlap. -/
theorem toNat_eq_sum_decodeFields (w : ConfigWord) :
    w.toNat = (decodeFields w).1.toNat * 2 ^ 15 + (decodeFields w).2.noop.toNat * 2 ^ 13 +
      (decodeFields w).2.pullup.toNat * 2 ^ 12 + (decodeFields w).2.sensor.toNat * 2 ^ 11 +
      (decodeFields w).2.rate.toNat * 2 ^ 8 + (decodeFields w).2.opmode.toNat * 2 ^ 7 +
      (decodeFields w).2.gain.toNat * 2 ^ 4 + (decodeFields w).2.mux.toNat * 2 + (decodeFields w).2.start.toNat := by
  obtain ⟨hreserved, hnoop, hpullup, hsensor, hrate, hopmode, hgain, hmux, hstart⟩ := decodeReadsEveryBit.1 w
  omega

/-! ## What the codec writes (R100, R103) -/

/-- `decode` reads back the record that `encode` packed, with the reserved bit 1. -/
theorem decodeFields_encodeFields (f : Fields) : decodeFields (encodeFields f) = (1, f) := by
  have hreserved : (encodeFields f).extractLsb' 15 1 = 1 := by
    apply BitVec.eq_of_getLsbD_eq
    intro i hi
    interval_cases i
    simp
  simp [decodeFields, fieldsOf, hreserved]

/-- "cfg with field x set to v" (R103) decodes to the old record with the field set, whatever bit 15 was. -/
theorem decodeFields_updateFields (upd : Fields → Fields) (w : ConfigWord) :
    decodeFields (updateFields upd w) = (1, upd (decodeFields w).2) :=
  decodeFields_encodeFields _

/-- Settles O2: an encoded word is the weighted sum of what `decode` reads from it, and `decode` reads back the record. -/
theorem encodePacksFieldsByPosition : Obligations.EncodePacksFieldsByPosition := by
  refine ⟨fun f => ?_, by decide⟩
  simpa [decodeFields_encodeFields] using toNat_eq_sum_decodeFields (encodeFields f)

/-! ## The common setter behaviour (R104) -/

/-- A setter writes `cfg` and the response: the rest of what R104 speaks of stays. -/
theorem runSetter_frame {width : Nat} (max : Nat) (upd : BitVec width → Fields → Fields) (arg : Nat) (s : State) :
    (runSetter width max upd arg s).lastMode = s.lastMode ∧ (runSetter width max upd arg s).seq = s.seq ∧
      (runSetter width max upd arg s).events = s.events ∧ (runSetter width max upd arg s).csN = s.csN ∧
      (runSetter width max upd arg s).txWord = s.txWord ∧ (runSetter width max upd arg s).rspValid = true ∧
      (runSetter width max upd arg s).rspValue = 0 := by
  obtain ⟨-, e⟩ | ⟨-, e⟩ := runSetter_cases width max upd arg s <;> simp [e]

theorem runSetter_of_le {width max arg : Nat} (upd : BitVec width → Fields → Fields) (s : State) (h : arg ≤ max) :
    runSetter width max upd arg s =
      respond .ok (updateFields (upd (BitVec.ofNat width arg)) s.cfg) 0
        { s with cfg := updateFields (upd (BitVec.ofNat width arg)) s.cfg } := by
  obtain ⟨hlt, -⟩ | ⟨-, e⟩ := runSetter_cases width max upd arg s
  · omega
  · exact e

theorem runSetter_of_gt {width max arg : Nat} (upd : BitVec width → Fields → Fields) (s : State) (h : max < arg) :
    runSetter width max upd arg s = respondError .outOfRange s := by
  obtain ⟨-, e⟩ | ⟨hle, -⟩ := runSetter_cases width max upd arg s
  · exact e
  · omega

/-- The command `mk` is the common setter behaviour of R104, for the field that `upd` writes and its largest value. -/
def RunsSetter (mk : Nat → Instr) (max : Nat) (upd : Nat → Fields → Fields) : Prop :=
  ∃ (width : Nat) (op : BitVec 4) (write : BitVec width → Fields → Fields),
    (∀ a, write (BitVec.ofNat width a) = upd a) ∧
      ∀ a s, exec (mk a) s = .next (runSetter width max write a (acceptOp op s))

theorem runsSetter_setRate : RunsSetter .setRate 7 fun a f => { f with rate := BitVec.ofNat 3 a } :=
  ⟨3, Op.setRate, Fields.withRate, fun _ => rfl, fun _ _ => rfl⟩

theorem runsSetter_setGain : RunsSetter .setGain 7 fun a f => { f with gain := BitVec.ofNat 3 a } :=
  ⟨3, Op.setGain, Fields.withGain, fun _ => rfl, fun _ _ => rfl⟩

theorem runsSetter_setMux : RunsSetter .setMux 7 fun a f => { f with mux := BitVec.ofNat 3 a } :=
  ⟨3, Op.setMux, Fields.withMux, fun _ => rfl, fun _ _ => rfl⟩

theorem runsSetter_setOpmode : RunsSetter .setOpmode 1 fun a f => { f with opmode := BitVec.ofNat 1 a } :=
  ⟨1, Op.setOpmode, Fields.withOpmode, fun _ => rfl, fun _ _ => rfl⟩

theorem runsSetter_setPullup : RunsSetter .setPullup 1 fun a f => { f with pullup := BitVec.ofNat 1 a } :=
  ⟨1, Op.setPullup, Fields.withPullup, fun _ => rfl, fun _ _ => rfl⟩

/-- Settles O23: the five commands are one setter behaviour with five fields; in range the new `cfg` decodes to the updated
record, and above the range it is the old one. -/
theorem settersKeepEveryOtherField : Obligations.SettersKeepEveryOtherField := by
  intro mk max upd hmem a s
  have hsetter : RunsSetter mk max upd := by
    simp only [List.mem_cons, List.not_mem_nil, or_false, Prod.mk.injEq] at hmem
    obtain ⟨rfl, rfl, rfl⟩ | ⟨rfl, rfl, rfl⟩ | ⟨rfl, rfl, rfl⟩ | ⟨rfl, rfl, rfl⟩ | ⟨rfl, rfl, rfl⟩ := hmem
    · exact runsSetter_setRate
    · exact runsSetter_setGain
    · exact runsSetter_setMux
    · exact runsSetter_setOpmode
    · exact runsSetter_setPullup
  obtain ⟨width, op, write, hwrite, hexec⟩ := hsetter
  obtain ⟨hmode, hseq, hevents, hcs, htx, hvalid, hvalue⟩ := runSetter_frame max write a (acceptOp op s)
  refine ⟨_, hexec a s, hmode, hseq, hevents, hcs, htx, hvalid, hvalue, fun hle => ?_, fun hgt => ?_⟩
  · rw [runSetter_of_le write _ hle]
    simp [decodeFields_updateFields, hwrite]
  · rw [runSetter_of_gt write _ hgt]
    simp

end Sys2Proof.Proofs
end

/-! # Proofs about the bus transaction (spec/42_bus_transaction.md) -/

section
namespace Sys2Proof.Proofs

open Sys2Proof.Machine

/-! ## One step, told by its micro-step -/

/-- The environment's own fields are no part of what `stepsTo` compares. -/
theorem stepsTo_of_step {s t u : State} (hstep : step s = .next (advance t)) (hblock : t.block = u.block) :
    stepsTo s u :=
  ⟨advance t, hstep, hblock⟩

theorem step_of_seq_txBegin {s : State} (hq : quiet s.ports) (hseq : s.seq = .txBegin) :
    step s = .next (advance (txBegin s)) := by
  rw [step_of_quiet hq]
  simp [seqStep, hseq, advanceResult]

theorem step_of_seq_txEnd {s : State} (hq : quiet s.ports) (hseq : s.seq = .txEnd) :
    step s = .next (advance (txEnd s)) := by
  rw [step_of_quiet hq]
  simp [seqStep, hseq, advanceResult]

/-! ## The start of a frame (R141) -/

/-- Settles O37: the step runs TX_BEGIN, whose writes are the ones named. -/
theorem txBeginOpensTheFrame : Obligations.TxBeginOpensTheFrame := by
  intro s hq hseq
  exact stepsTo_of_step (step_of_seq_txBegin hq hseq) rfl

/-! ## The tables as the spec prints them (R130, R200) -/

theorem lat_eq_latMs : ∀ rate : BitVec 3, lat rate = BitVec.ofNat 8 (latMs rate.toNat) := by decide

theorem kFactor_eq_scaleFactor : ∀ gain : BitVec 3, (kFactor gain : Int) = scaleFactor gain.toNat := by decide

theorem kFactor_le : ∀ gain : BitVec 3, kFactor gain ≤ 24 := by decide

/-! ## The delivered value as an integer (R177) -/

/-- The product of a 16-bit code and a factor up to 24 fits 21 bits (R200). -/
theorem scaleMvQ7_toInt (code : Sample) (gain : BitVec 3) :
    (scaleMvQ7 code gain).toInt = code.toInt * scaleFactor gain.toNat := by
  have hk : (kFactor gain : Int) ≤ 24 := by exact_mod_cast kFactor_le gain
  have hk0 : (0 : Int) ≤ kFactor gain := Int.natCast_nonneg _
  have hlow : -2 ^ 15 ≤ code.toInt := BitVec.le_toInt code
  have hhigh : code.toInt < 2 ^ 15 := BitVec.toInt_lt
  have hmin : -2 ^ 20 ≤ code.toInt * kFactor gain := by nlinarith
  have hmax : code.toInt * kFactor gain < 2 ^ 20 := by nlinarith
  rw [← kFactor_eq_scaleFactor]
  exact BitVec.toInt_ofInt_eq_self (by decide) hmin hmax

theorem scaleTempQ3_toInt (code : Sample) : (scaleTempQ3 code).toInt = code.toInt :=
  BitVec.toInt_signExtend_of_le (by decide)

/-- Where R177's table has a row for the opcode, the delivered value is the row's integer, without overflow. -/
theorem deliveredValue_toInt {op : BitVec 4} {sample : Sample} {cfg : ConfigWord} {v : Int}
    (h : deliveredInt op sample cfg = some v) :
    (deliveredValue op sample (decodeFields cfg).2.gain).toInt = v := by
  unfold deliveredInt at h
  split_ifs at h with hraw hmv htemp <;> obtain rfl := Option.some.inj h
  · obtain rfl | rfl | rfl := hraw <;> rfl
  · obtain rfl | rfl := hmv <;> exact scaleMvQ7_toInt sample _
  · subst htemp
    exact scaleTempQ3_toInt sample

/-! ## The end of a frame (R146) -/

/-- What TX_END does before it looks at how the frame went: transaction closed, chip-select released. -/
def closeFrame (s : State) : State := { s with csN := true, events := s.events ++ [.busEnd, .csDeassert] }

theorem txEnd_eq_completeFrame (s : State) : txEnd s = completeFrame (closeFrame s) := rfl

/-- The commit of a discard frame starts the wait for the rate of the word just sent (R174). -/
theorem commit_eq (s : State) : commit s = { s with
    cfg := s.txWord, lastMode := s.reqMode.asLast, seq := .wait, events := s.events ++ [waitEvent s.txWord] } := by
  have hwait : waitEvent s.txWord = .timerStart (lat (decodeFields s.txWord).2.rate) := by
    rw [lat_eq_latMs]
    rfl
  rw [hwait]
  rfl

theorem completeFrame_of_fail {s : State} (hfail : s.txFail = true) :
    completeFrame s = raiseStatus .busError s := by
  simp [completeFrame, hfail]

theorem completeFrame_of_discard {s : State} (hok : s.txFail = false) (hphase : s.phase = .discard) :
    completeFrame s = commit s := by
  simp [completeFrame, hok, hphase]

theorem completeFrame_of_terminal {s : State} (hok : s.txFail = false) (hphase : s.phase ≠ .discard) :
    completeFrame s = deliver s := by
  obtain ⟨hfail, -⟩ | ⟨-, hdiscard, -⟩ | ⟨-, -, e⟩ := completeFrame_cases s
  · simp [hok] at hfail
  · exact absurd hdiscard hphase
  · exact e

/-- Settles O40: TX_END closes the frame and completes it, in the three ways of R177. -/
theorem frameEndFailsCommitsOrDelivers : Obligations.FrameEndFailsCommitsOrDelivers := by
  intro s hq hseq
  have hstep : step s = .next (advance (completeFrame (closeFrame s))) := by
    rw [step_of_seq_txEnd hq hseq, txEnd_eq_completeFrame]
  refine ⟨fun hfail => ?_, fun hok hphase => ?_, fun hok hphase v hv => ?_⟩
  · rw [completeFrame_of_fail (s := closeFrame s) hfail] at hstep
    exact stepsTo_of_step hstep rfl
  · rw [completeFrame_of_discard (s := closeFrame s) hok hphase, commit_eq] at hstep
    have hevents : s.events ++ [.busEnd, .csDeassert] ++ [waitEvent s.txWord] =
        s.events ++ [.busEnd, .csDeassert, waitEvent s.txWord] := List.append_assoc ..
    rw [← hevents]
    exact stepsTo_of_step hstep rfl
  · rw [completeFrame_of_terminal (s := closeFrame s) hok hphase] at hstep
    exact ⟨deliveredValue s.curOp s.sample s.cfgGain, deliveredValue_toInt hv, stepsTo_of_step hstep rfl⟩

end Sys2Proof.Proofs
end

/-! # Proofs about the value conversion (spec/44_value_conversion.md) -/

section
namespace Sys2Proof.Proofs

open Sys2Proof.Machine

/-! ## The Q3 value (R202) -/

/-- Settles O29: sign extension to 21 bits keeps the signed code, and the bounds are those of a signed 16-bit word. -/
theorem temperatureScalingIsTheSignedCode : Obligations.TemperatureScalingIsTheSignedCode := by
  intro code
  have hlow : -2 ^ 15 ≤ code.toInt := BitVec.le_toInt code
  have hhigh : code.toInt < 2 ^ 15 := BitVec.toInt_lt
  rw [scaleTempQ3_toInt]
  exact ⟨rfl, by omega, by omega⟩

/-! ## Gains with the same factor (R206) -/

/-- The Q7 value takes nothing from the gain but its factor `K`. -/
theorem scaleMvQ7_congr {g h : BitVec 3} (code : Sample) (hk : kFactor g = kFactor h) :
    scaleMvQ7 code g = scaleMvQ7 code h := by
  simp only [scaleMvQ7, hk]

/-- Settles O30: gains 5, 6 and 7 have the same factor, and it is 1. -/
theorem gainCodesFiveToSevenAlias : Obligations.GainCodesFiveToSevenAlias := by
  intro code
  refine ⟨scaleMvQ7_congr code (by decide), scaleMvQ7_congr code (by decide), ?_⟩
  calc (scaleMvQ7 code 5).toInt = code.toInt * scaleFactor 5 := scaleMvQ7_toInt code 5
    _ = code.toInt := mul_one _

/-! ## SCALE_TEMP (R204) -/

/-- Behind a zero `rsv` field, opcode 0xF is the form CMD32.data (R71, R72). -/
theorem decode_of_opField_scaleTemp {w : CommandWord} (hop : opField w = 0xF) (hrsv : rsvField w = 0) :
    decode w = formData w .scaleTemp := by
  simp [decode, hop, hrsv]

theorem formData_of_argField_zero {w : CommandWord} (mk : Sample → Instr) (harg : argField w = 0) :
    formData w mk = .ok (mk (dataField w)) := by
  simp [formData, harg]

/-- A word with opcode 0xF is SCALE_TEMP of its `data` field where `rsv` and `arg` are 0, and meets a condition of R74
otherwise. -/
theorem encodesAs_scaleTemp : encodesAs 0xF false true (fun _ d => .scaleTemp d) := by
  intro w (hop : opField w = 0xF)
  refine ⟨fun ⟨hrsv, harg, _⟩ => ?_, fun hused => decode_error_of_illegalWord ?_⟩
  · rw [decode_of_opField_scaleTemp hop hrsv, formData_of_argField_zero _ (harg rfl)]
    rfl
  · by_cases hrsv : rsvField w = 0
    · have harg : argField w ≠ 0 := fun harg => hused ⟨hrsv, fun _ => harg, nofun⟩
      exact .inr (.inr (.inl ⟨by simp [hop], harg⟩))
    · exact .inr (.inl hrsv)

/-- The accept step of SCALE_TEMP is its answer, with the code as raw word and its Q3 value. -/
theorem exec_scaleTemp (d : Sample) (s : State) :
    exec (.scaleTemp d) s = .next (answered 0xF .ok d (scaleTempQ3 d) s) := rfl

/-- Settles O27: the value answered is the Q3 value, whose integer is the signed code. -/
theorem scaleTempExtendsItsCode : Obligations.ScaleTempExtendsItsCode :=
  ⟨encodesAs_scaleTemp, fun d s => ⟨scaleTempQ3 d, scaleTempQ3_toInt d, exec_scaleTemp d s⟩⟩

end Sys2Proof.Proofs
end


/-! # Proofs about INIT (spec/45_device_interface.md) -/

section
namespace Sys2Proof.Proofs

open Sys2Proof.Machine

/-! ## The words of form CMD32.none (R71) -/

theorem formNone_of_fields_zero {w : CommandWord} (i : Instr) (harg : argField w = 0) (hdata : dataField w = 0) :
    formNone w i = .ok i := by
  simp [formNone, harg, hdata]

theorem formNone_error_of_field_ne_zero {w : CommandWord} (i : Instr) (hused : ¬ (argField w = 0 ∧ dataField w = 0)) :
    ∃ r, formNone w i = .error r := by
  cases hf : formNone w i with
  | error r => exact ⟨r, rfl⟩
  | ok j => exact absurd (formNone_ok_fields hf) hused

/-- An opcode that the decoder reads in form CMD32.none encodes its command in the one word whose other fields are 0. -/
theorem encodesAs_of_formNone {op : BitVec 4} {i : Instr}
    (hdec : ∀ w, opField w = op → rsvField w = 0 → decode w = formNone w i) :
    encodesAs op false false (fun _ _ => i) := by
  intro w (hop : opField w = op)
  refine ⟨fun ⟨hrsv, harg, hdata⟩ => ?_, fun hused => ?_⟩
  · rw [hdec w hop hrsv]
    exact formNone_of_fields_zero i (harg rfl) (hdata rfl)
  · by_cases hrsv : rsvField w = 0
    · rw [hdec w hop hrsv]
      exact formNone_error_of_field_ne_zero i fun ⟨harg, hdata⟩ => hused ⟨hrsv, fun _ => harg, fun _ => hdata⟩
    · exact decode_error_of_illegalWord (.inr (.inl hrsv))

/-! ## INIT (R230) -/

theorem decode_of_opField_init {w : CommandWord} (hop : opField w = 0x1) (hrsv : rsvField w = 0) :
    decode w = formNone w .init := by
  simp [decode, hop, hrsv]

theorem encodesAs_init : encodesAs 0x1 false false (fun _ _ => .init) :=
  encodesAs_of_formNone fun _ => decode_of_opField_init

theorem encodeFields_defaultFields : encodeFields defaultFields = 0xB0F1 := by decide

/-- The accept step of INIT writes the default word and the uninitialized mode and answers that word. -/
theorem exec_init (s : State) :
    exec .init s = .next (answered 0x1 .ok 0xB0F1 0 { s with cfg := 0xB0F1, lastMode := .uninitialized }) := by
  rw [← encodeFields_defaultFields]
  rfl

/-- Settles O17: opcode 1 is of form CMD32.none, and the accept step writes the word that the default fields encode. -/
theorem initSetsDefaults : Obligations.InitSetsDefaults :=
  ⟨encodesAs_init, exec_init⟩

end Sys2Proof.Proofs
end


/-! # Proofs about reset (spec/70_reset_and_hazards.md) -/

section
namespace Sys2Proof.Proofs

open Sys2Proof.Machine

/-- Settles O10: with reset presented the step is `resetStep`, whatever `seq` holds, and the end of the step writes none of
the 16 elements. -/
theorem resetStepSetsEveryElement : Obligations.ResetStepSetsEveryElement := by
  intro s hreset
  refine ⟨advance (resetStep s), step_of_reset hreset, ?_⟩
  simp

end Sys2Proof.Proofs
end

/-! # Proofs about the decoder, the encoder and the assembler as a whole (spec/30_encoding.md) -/

section
namespace Sys2Proof.Proofs

open Sys2Proof.Machine Sys2Proof.Laws

/-! ## The row of each opcode (R72) -/

/-- Behind a zero `rsv` field, the decoder reads the words of an opcode in the given form. -/
def DecodesBy (op : BitVec 4) (form : CommandWord → Except Reject Instr) : Prop :=
  ∀ w : CommandWord, opField w = op → rsvField w = 0 → decode w = form w

theorem decodesBy_init : DecodesBy 0x1 fun w => formNone w .init :=
  fun _ => decode_of_opField_init
theorem decodesBy_setRate : DecodesBy 0x2 fun w => formArg w .setRate :=
  fun _ hop hrsv => by simp [decode, hop, hrsv]
theorem decodesBy_setGain : DecodesBy 0x3 fun w => formArg w .setGain :=
  fun _ hop hrsv => by simp [decode, hop, hrsv]
theorem decodesBy_setMux : DecodesBy 0x4 fun w => formArg w .setMux :=
  fun _ hop hrsv => by simp [decode, hop, hrsv]
theorem decodesBy_setOpmode : DecodesBy 0x5 fun w => formArg w .setOpmode :=
  fun _ hop hrsv => by simp [decode, hop, hrsv]
theorem decodesBy_setPullup : DecodesBy 0x6 fun w => formArg w .setPullup :=
  fun _ hop hrsv => by simp [decode, hop, hrsv]
theorem decodesBy_readAdc : DecodesBy 0x7 fun w => formArg w .readAdc :=
  fun _ hop hrsv => by simp [decode, hop, hrsv]
theorem decodesBy_readMv : DecodesBy 0x8 fun w => formArg w .readMv :=
  fun _ hop hrsv => by simp [decode, hop, hrsv]
theorem decodesBy_readAdcNw : DecodesBy 0x9 fun w => formNone w .readAdcNw :=
  fun _ hop hrsv => by simp [decode, hop, hrsv]
theorem decodesBy_readMvNw : DecodesBy 0xA fun w => formNone w .readMvNw :=
  fun _ hop hrsv => by simp [decode, hop, hrsv]
theorem decodesBy_readRaw : DecodesBy 0xB fun w => formNone w .readRaw :=
  fun _ hop hrsv => by simp [decode, hop, hrsv]
theorem decodesBy_readTemp : DecodesBy 0xC fun w => formNone w .readTemp :=
  fun _ hop hrsv => by simp [decode, hop, hrsv]
theorem decodesBy_latency : DecodesBy 0xD fun w => formArg w .latency :=
  fun _ hop hrsv => by simp [decode, hop, hrsv]
theorem decodesBy_scaleMv : DecodesBy 0xE fun w => formArgData w .scaleMv :=
  fun _ hop hrsv => by simp [decode, hop, hrsv]
theorem decodesBy_scaleTemp : DecodesBy 0xF fun w => formData w .scaleTemp :=
  fun _ => decode_of_opField_scaleTemp

/-- The decoder's rows have no gap: behind an opcode and a zero `rsv` field, the opcode is one of the 15 of R72. -/
theorem opField_cases {w : CommandWord} (hop : opField w ≠ 0) :
    opField w = 0x1 ∨ opField w = 0x2 ∨ opField w = 0x3 ∨ opField w = 0x4 ∨ opField w = 0x5 ∨ opField w = 0x6 ∨
      opField w = 0x7 ∨ opField w = 0x8 ∨ opField w = 0x9 ∨ opField w = 0xA ∨ opField w = 0xB ∨ opField w = 0xC ∨
      opField w = 0xD ∨ opField w = 0xE ∨ opField w = 0xF := by
  revert hop
  generalize opField w = op
  revert op
  decide

/-! ## Decoding after encoding (R71, R73) -/

/-- An `arg` operand that fits its field is read back. -/
theorem toNat_argField_packWord {op : BitVec 4} {a : Nat} {d : Sample} (ha : a ≤ 255) :
    (argField (packWord op a d)).toNat = a := by
  rw [argField_packWord, BitVec.toNat_ofNat, Nat.mod_eq_of_lt (by omega)]

theorem decode_packWord {op : BitVec 4} {form : CommandWord → Except Reject Instr} (hdec : DecodesBy op form) (a : Nat)
    (d : Sample) : decode (packWord op a d) = form (packWord op a d) :=
  hdec _ (opField_packWord op a d) (rsvField_packWord op a d)

theorem decode_packWord_none {op : BitVec 4} {i : Instr} (hdec : DecodesBy op fun w => formNone w i) :
    decode (packWord op 0 0) = .ok i := by
  rw [decode_packWord hdec]
  exact formNone_of_fields_zero i (argField_packWord op 0 0) (dataField_packWord op 0 0)

theorem formArg_of_dataField_zero {w : CommandWord} (mk : Nat → Instr) (hdata : dataField w = 0) :
    formArg w mk = .ok (mk (argField w).toNat) := by
  simp [formArg, hdata]

theorem decode_packWord_arg {op : BitVec 4} {mk : Nat → Instr} {a : Nat} (hdec : DecodesBy op fun w => formArg w mk)
    (ha : argFits a = true) : decode (packWord op a 0) = .ok (mk a) := by
  have ha255 : a ≤ 255 := of_decide_eq_true ha
  rw [decode_packWord hdec, formArg_of_dataField_zero mk (dataField_packWord op a 0), toNat_argField_packWord ha255]

/-- Settles O4: the packed word has the fields it was packed from, so the row of its opcode gives the command back. -/
theorem decodeInvertsEncode : Obligations.DecodeInvertsEncode := by
  intro i hwf
  cases i with
  | init => exact decode_packWord_none decodesBy_init
  | setRate a => exact decode_packWord_arg decodesBy_setRate hwf
  | setGain a => exact decode_packWord_arg decodesBy_setGain hwf
  | setMux a => exact decode_packWord_arg decodesBy_setMux hwf
  | setOpmode a => exact decode_packWord_arg decodesBy_setOpmode hwf
  | setPullup a => exact decode_packWord_arg decodesBy_setPullup hwf
  | readAdc a => exact decode_packWord_arg decodesBy_readAdc hwf
  | readMv a => exact decode_packWord_arg decodesBy_readMv hwf
  | readAdcNw => exact decode_packWord_none decodesBy_readAdcNw
  | readMvNw => exact decode_packWord_none decodesBy_readMvNw
  | readRaw => exact decode_packWord_none decodesBy_readRaw
  | readTemp => exact decode_packWord_none decodesBy_readTemp
  | latency a => exact decode_packWord_arg decodesBy_latency hwf
  | scaleMv a d =>
    have ha : a ≤ 255 := of_decide_eq_true hwf
    change decode (packWord 0xE a d) = _
    rw [decode_packWord decodesBy_scaleMv]
    simp [formArgData, toNat_argField_packWord ha, dataField_packWord]
  | scaleTemp d =>
    change decode (packWord 0xF 0 d) = _
    rw [decode_packWord decodesBy_scaleTemp, formData_of_argField_zero _ (argField_packWord _ 0 d), dataField_packWord]

/-- Settles O7: each word is the word of the command, and the command is well-formed. -/
theorem sampleWordsDecode : Obligations.SampleWordsDecode :=
  ⟨decodeInvertsEncode .init rfl, decodeInvertsEncode (.setRate 7) rfl, decodeInvertsEncode (.readAdc 4) rfl,
    decodeInvertsEncode .readMvNw rfl, decodeInvertsEncode (.latency 8) rfl, decodeInvertsEncode (.scaleMv 2 0x4000) rfl,
    decodeInvertsEncode (.scaleTemp 0x0190) rfl⟩

/-! ## Encoding after decoding (R75) -/

/-- The four fields cover the word (R71). -/
theorem word_eq_of_fields_eq {v w : CommandWord} (hop : opField v = opField w) (hrsv : rsvField v = rsvField w)
    (harg : argField v = argField w) (hdata : dataField v = dataField w) : v = w := by
  have hop' := congrArg BitVec.toNat hop
  have hrsv' := congrArg BitVec.toNat hrsv
  have harg' := congrArg BitVec.toNat harg
  have hdata' := congrArg BitVec.toNat hdata
  have hv := v.isLt
  have hw := w.isLt
  simp only [opField, rsvField, argField, dataField, BitVec.extractLsb'_toNat, Nat.shiftRight_eq_div_pow]
    at hop' hrsv' harg' hdata'
  apply BitVec.eq_of_toNat_eq
  omega

/-- A word with a zero `rsv` field is packed from its other three fields. -/
theorem packWord_fields {w : CommandWord} (hrsv : rsvField w = 0) :
    packWord (opField w) (argField w).toNat (dataField w) = w :=
  word_eq_of_fields_eq (opField_packWord _ _ _) ((rsvField_packWord _ _ _).trans hrsv.symm)
    ((argField_packWord _ _ _).trans (by simp)) (dataField_packWord _ _ _)

theorem argFits_argField (w : CommandWord) : argFits (argField w).toNat = true :=
  decide_eq_true (Nat.le_of_lt_succ (argField w).isLt)

/-- What an accepted word says of the command it decodes to. -/
def WordOf (w : CommandWord) (i : Instr) : Prop := i.wellFormed = true ∧ encode i = w

theorem wordOf_of_decodesBy_none {op : BitVec 4} {w : CommandWord} {i j : Instr}
    (hdec : DecodesBy op fun w => formNone w i) (hop : opField w = op) (hwf : i.wellFormed = true)
    (henc : encode i = packWord op 0 0) (h : decode w = .ok j) : WordOf w j := by
  obtain ⟨-, hrsv⟩ := decode_ok_header h
  replace h : formNone w i = .ok j := (hdec w hop hrsv).symm.trans h
  obtain ⟨harg, hdata⟩ := formNone_ok_fields h
  rw [formNone_of_fields_zero i harg hdata] at h
  obtain rfl := Except.ok.inj h
  refine ⟨hwf, henc.trans ?_⟩
  simpa [hop, harg, hdata] using packWord_fields hrsv

theorem wordOf_of_decodesBy_arg {op : BitVec 4} {w : CommandWord} {mk : Nat → Instr} {j : Instr}
    (hdec : DecodesBy op fun w => formArg w mk) (hop : opField w = op) (hwf : ∀ a, (mk a).wellFormed = argFits a)
    (henc : ∀ a, encode (mk a) = packWord op a 0) (h : decode w = .ok j) : WordOf w j := by
  obtain ⟨-, hrsv⟩ := decode_ok_header h
  replace h : formArg w mk = .ok j := (hdec w hop hrsv).symm.trans h
  have hdata := formArg_ok_fields h
  rw [formArg_of_dataField_zero mk hdata] at h
  obtain rfl := Except.ok.inj h
  refine ⟨(hwf _).trans (argFits_argField w), (henc _).trans ?_⟩
  simpa [hop, hdata] using packWord_fields hrsv

theorem wordOf_scaleMv {w : CommandWord} {j : Instr} (hop : opField w = 0xE) (h : decode w = .ok j) : WordOf w j := by
  obtain ⟨-, hrsv⟩ := decode_ok_header h
  rw [decodesBy_scaleMv w hop hrsv] at h
  obtain rfl := Except.ok.inj h
  refine ⟨argFits_argField w, ?_⟩
  rw [← packWord_fields hrsv, hop]
  simp [encode, argField_packWord, dataField_packWord]

theorem wordOf_scaleTemp {w : CommandWord} {j : Instr} (hop : opField w = 0xF) (h : decode w = .ok j) : WordOf w j := by
  obtain ⟨-, hrsv⟩ := decode_ok_header h
  replace h : formData w .scaleTemp = .ok j := (decodesBy_scaleTemp w hop hrsv).symm.trans h
  have harg := formData_ok_fields h
  rw [formData_of_argField_zero _ harg] at h
  obtain rfl := Except.ok.inj h
  refine ⟨rfl, ?_⟩
  simpa [encode, hop, harg] using packWord_fields hrsv

/-- The decoder accepts a word only as the word of the command it answers. -/
theorem wordOf_of_decode_ok {w : CommandWord} {i : Instr} (h : decode w = .ok i) : WordOf w i := by
  obtain ⟨hop, -⟩ := decode_ok_header h
  obtain e | e | e | e | e | e | e | e | e | e | e | e | e | e | e := opField_cases hop
  · exact wordOf_of_decodesBy_none decodesBy_init e rfl rfl h
  · exact wordOf_of_decodesBy_arg decodesBy_setRate e (fun _ => rfl) (fun _ => rfl) h
  · exact wordOf_of_decodesBy_arg decodesBy_setGain e (fun _ => rfl) (fun _ => rfl) h
  · exact wordOf_of_decodesBy_arg decodesBy_setMux e (fun _ => rfl) (fun _ => rfl) h
  · exact wordOf_of_decodesBy_arg decodesBy_setOpmode e (fun _ => rfl) (fun _ => rfl) h
  · exact wordOf_of_decodesBy_arg decodesBy_setPullup e (fun _ => rfl) (fun _ => rfl) h
  · exact wordOf_of_decodesBy_arg decodesBy_readAdc e (fun _ => rfl) (fun _ => rfl) h
  · exact wordOf_of_decodesBy_arg decodesBy_readMv e (fun _ => rfl) (fun _ => rfl) h
  · exact wordOf_of_decodesBy_none decodesBy_readAdcNw e rfl rfl h
  · exact wordOf_of_decodesBy_none decodesBy_readMvNw e rfl rfl h
  · exact wordOf_of_decodesBy_none decodesBy_readRaw e rfl rfl h
  · exact wordOf_of_decodesBy_none decodesBy_readTemp e rfl rfl h
  · exact wordOf_of_decodesBy_arg decodesBy_latency e (fun _ => rfl) (fun _ => rfl) h
  · exact wordOf_scaleMv e h
  · exact wordOf_scaleTemp e h

/-- The decoder rejects no word but those of R74. -/
theorem decode_ok_of_not_illegalWord {w : CommandWord} (h : ¬ illegalWord w) : ∃ i, decode w = .ok i := by
  simp only [illegalWord, not_or, not_and, not_not] at h
  obtain ⟨hop, hrsv, harg, hdata⟩ := h
  obtain ⟨hmem, i, e⟩ | ⟨hmem, mk, e⟩ | ⟨-, e⟩ | ⟨hf, e⟩ := decode_form hop hrsv
  · have hops : opField w ∈ [0x1#4, 0x9#4, 0xA#4, 0xB#4, 0xC#4, 0xF#4] ∧ opField w ∉ [0xE#4, 0xF#4] := by
      revert hmem
      generalize opField w = op
      revert op
      decide
    exact ⟨i, e.trans (formNone_of_fields_zero i (harg hops.1) (hdata hops.2))⟩
  · have hused : opField w ∉ [0xE#4, 0xF#4] := by
      revert hmem
      generalize opField w = op
      revert op
      decide
    exact ⟨_, e.trans (formArg_of_dataField_zero mk (hdata hused))⟩
  · exact ⟨_, e⟩
  · exact ⟨_, e.trans (formData_of_argField_zero _ (harg (by simp [hf])))⟩

/-- Settles O5: an accepted word is packed from the fields its command was read from, and the decoder rejects exactly the
words of R74. -/
theorem everyWordIsOneCommandOrIllegal : Obligations.EveryWordIsOneCommandOrIllegal := by
  refine ⟨fun w i h => ?_, fun w => decode_ok_of_not_illegalWord⟩
  obtain ⟨hwf, henc⟩ := wordOf_of_decode_ok h
  exact ⟨hwf, henc, not_illegalWord_of_decode_ok h⟩

/-! ## Which commands the words of an opcode encode (R72) -/

theorem encodesAs_of_formArg {op : BitVec 4} {mk : Nat → Instr} (hdec : DecodesBy op fun w => formArg w mk) :
    encodesAs op true false (fun a _ => mk a) := by
  intro w (hop : opField w = op)
  refine ⟨fun ⟨hrsv, _, hdata⟩ => (hdec w hop hrsv).trans (formArg_of_dataField_zero mk (hdata rfl)), fun hused => ?_⟩
  cases hd : decode w with
  | error r => exact ⟨r, rfl⟩
  | ok i =>
    obtain ⟨-, hrsv⟩ := decode_ok_header hd
    rw [hdec w hop hrsv] at hd
    exact absurd ⟨hrsv, nofun, fun _ => formArg_ok_fields hd⟩ hused

theorem encodesAs_scaleMv : encodesAs 0xE true true .scaleMv := by
  intro w (hop : opField w = 0xE)
  refine ⟨fun ⟨hrsv, _, _⟩ => decodesBy_scaleMv w hop hrsv, fun hused => ?_⟩
  have hrsv : rsvField w ≠ 0 := fun hrsv => hused ⟨hrsv, nofun, nofun⟩
  exact decode_error_of_illegalWord (.inr (.inl hrsv))

/-! ## What the assembler gives (R82) -/

theorem asmArg_of_le {a : Int} (mk : Nat → Instr) (h : 0 ≤ a ∧ a ≤ 255) : asmArg mk a = some (mk a.toNat) := if_pos h

theorem asmArg_none {a : Int} (mk : Nat → Instr) (h : a < 0 ∨ 255 < a) : asmArg mk a = none := if_neg (by omega)

theorem asmData_of_le {d : Int} (h : -32768 ≤ d ∧ d ≤ 65535) : asmData d = some (BitVec.ofInt 16 d) := if_pos h

theorem asmData_none {d : Int} (h : d < -32768 ∨ 65535 < d) : asmData d = none := if_neg (by omega)

/-- An `arg` operand that the assembler takes fits its field. -/
theorem wellFormed_of_asmArg {mk : Nat → Instr} {a : Int} {i : Instr} (hwf : ∀ n, (mk n).wellFormed = argFits n)
    (h : asmArg mk a = some i) : i.wellFormed = true := by
  by_cases ha : 0 ≤ a ∧ a ≤ 255
  · rw [asmArg_of_le mk ha] at h
    obtain rfl := Option.some.inj h
    rw [hwf]
    exact decide_eq_true (by omega)
  · rw [asmArg_none mk (by omega)] at h
    cases h

theorem wellFormed_of_assemble {mnemonic : String} {operands : List Int} {i : Instr}
    (h : assemble mnemonic operands = some i) : i.wellFormed = true := by
  unfold assemble at h
  split at h
  case h_1 | h_9 | h_10 | h_11 | h_12 =>
    obtain rfl := Option.some.inj h
    rfl
  case h_2 | h_3 | h_4 | h_5 | h_6 | h_7 | h_8 | h_13 => exact wellFormed_of_asmArg (fun _ => rfl) h
  case h_14 =>
    obtain ⟨data, -, harg⟩ := Option.bind_eq_some_iff.mp h
    exact wellFormed_of_asmArg (fun _ => rfl) harg
  case h_15 =>
    obtain ⟨data, -, rfl⟩ := Option.map_eq_some_iff.mp h
    rfl
  case h_16 => cases h

/-- Every command of an assembled line fits its word. -/
theorem wellFormed_of_assembleLine {line : List Char} {is : List Instr} (h : assembleLine line = some is) :
    ∀ i ∈ is, i.wellFormed = true := by
  simp only [assembleLine] at h
  split at h
  · obtain rfl := Option.some.inj h
    simp
  · obtain ⟨ns, -, hline⟩ := Option.bind_eq_some_iff.mp h
    obtain ⟨j, hj, rfl⟩ := Option.map_eq_some_iff.mp hline
    simpa using wellFormed_of_assemble hj

/-- What holds of every value a successful `mapM` can give holds of every value in its result. -/
theorem forall_mem_of_mapM_eq_some {α β : Type} {f : α → Option β} {P : β → Prop} (hf : ∀ a b, f a = some b → P b) :
    ∀ {as : List α} {bs : List β}, as.mapM f = some bs → ∀ b ∈ bs, P b
  | [], bs, h => by
    obtain rfl := Option.some.inj h
    simp
  | a :: as, bs, h => by
    simp only [List.mapM_cons, bind, Option.bind_eq_some_iff] at h
    obtain ⟨b, hb, cs, hcs, hbs⟩ := h
    obtain rfl := Option.some.inj hbs
    intro c hc
    obtain rfl | hc := List.mem_cons.mp hc
    · exact hf a _ hb
    · exact forall_mem_of_mapM_eq_some hf hcs c hc

/-- Settles O8: the assembler's range checks are those of the word's fields, and a text is a list of such commands. -/
theorem assembledCommandDecodesBack : Obligations.AssembledCommandDecodesBack := by
  refine ⟨fun mnemonic operands i h => ?_, fun text ws h w hw => ?_⟩
  · have hwf := wellFormed_of_assemble h
    exact ⟨hwf, decodeInvertsEncode i hwf⟩
  · obtain ⟨ls, hls, rfl⟩ := Option.map_eq_some_iff.mp h
    obtain ⟨i, hi, rfl⟩ := List.mem_map.mp hw
    obtain ⟨is, his, hmem⟩ := List.mem_flatten.mp hi
    have hwf : i.wellFormed = true :=
      forall_mem_of_mapM_eq_some (fun _ _ hline => wellFormed_of_assembleLine hline) hls is his i hmem
    have hdec := decodeInvertsEncode i hwf
    exact ⟨not_illegalWord_of_decode_ok hdec, i, hdec, rfl⟩

/-! ## The assembler's forms (R82) -/

theorem assemble_plainForms {mn : String} {i : Instr} (h : (mn, i) ∈ plainForms) (ns : List Int) :
    assemble mn ns = if ns = [] then some i else none := by
  simp only [plainForms, List.mem_cons, Prod.mk.injEq, List.not_mem_nil, or_false] at h
  obtain ⟨rfl, rfl⟩ | ⟨rfl, rfl⟩ | ⟨rfl, rfl⟩ | ⟨rfl, rfl⟩ | ⟨rfl, rfl⟩ := h <;> cases ns <;> rfl

theorem assemble_argForms {mn : String} {mk : Nat → Instr} (h : (mn, mk) ∈ argForms) (a : Int) :
    assemble mn [a] = asmArg mk a := by
  simp only [argForms, List.mem_cons, Prod.mk.injEq, List.not_mem_nil, or_false] at h
  obtain ⟨rfl, rfl⟩ | ⟨rfl, rfl⟩ | ⟨rfl, rfl⟩ | ⟨rfl, rfl⟩ | ⟨rfl, rfl⟩ | ⟨rfl, rfl⟩ | ⟨rfl, rfl⟩ | ⟨rfl, rfl⟩ := h
  all_goals rfl

theorem assemble_argForms_length {mn : String} {mk : Nat → Instr} (h : (mn, mk) ∈ argForms) {ns : List Int}
    (hns : ns.length ≠ 1) : assemble mn ns = none := by
  simp only [argForms, List.mem_cons, Prod.mk.injEq, List.not_mem_nil, or_false] at h
  match ns, hns with
  | [], _ | _ :: _ :: _, _ =>
    obtain ⟨rfl, -⟩ | ⟨rfl, -⟩ | ⟨rfl, -⟩ | ⟨rfl, -⟩ | ⟨rfl, -⟩ | ⟨rfl, -⟩ | ⟨rfl, -⟩ | ⟨rfl, -⟩ := h <;> rfl

theorem assemble_scaleMv (a d : Int) :
    assemble "SCALE_MV" [a, d] = (asmData d).bind fun data => asmArg (fun n => .scaleMv n data) a := rfl

theorem assemble_scaleMv_in_range {a d : Int} (ha : 0 ≤ a ∧ a ≤ 255) (hd : -32768 ≤ d ∧ d ≤ 65535) :
    assemble "SCALE_MV" [a, d] = some (.scaleMv a.toNat (BitVec.ofInt 16 d)) := by
  rw [assemble_scaleMv, asmData_of_le hd, Option.bind_some, asmArg_of_le _ ha]

theorem assemble_scaleMv_out_of_range {a d : Int} (h : a < 0 ∨ 255 < a ∨ d < -32768 ∨ 65535 < d) :
    assemble "SCALE_MV" [a, d] = none := by
  rw [assemble_scaleMv]
  by_cases hd : -32768 ≤ d ∧ d ≤ 65535
  · have ha : a < 0 ∨ 255 < a := by omega
    rw [asmData_of_le hd, Option.bind_some, asmArg_none _ ha]
  · rw [asmData_none (by omega)]
    rfl

theorem assemble_scaleMv_length {ns : List Int} (hns : ns.length ≠ 2) : assemble "SCALE_MV" ns = none := by
  match ns, hns with
  | [], _ | [_], _ | _ :: _ :: _ :: _, _ => rfl

theorem assemble_scaleTemp (d : Int) : assemble "SCALE_TEMP" [d] = (asmData d).map .scaleTemp := rfl

theorem assemble_scaleTemp_length {ns : List Int} (hns : ns.length ≠ 1) : assemble "SCALE_TEMP" ns = none := by
  match ns, hns with
  | [], _ | _ :: _ :: _, _ => rfl

theorem assemble_unknown {mn : String} (ns : List Int)
    (h : mn ∉ plainForms.map Prod.fst ++ argForms.map Prod.fst ++ ["SCALE_MV", "SCALE_TEMP"]) :
    assemble mn ns = none := by
  unfold assemble
  split
  case h_16 => rfl
  all_goals exact absurd (by decide) h

/-- The part of a line before its comment is the whole of the line without one. -/
theorem assembleLine_comment {line : List Char} (comment : List Char) (h : ';' ∉ line) :
    assembleLine (line ++ ';' :: comment) = assembleLine line := by
  have hline : ∀ c ∈ line, (c != ';') = true := fun c hc => bne_iff_ne.mpr fun e => h (e ▸ hc)
  have hcut : (line ++ ';' :: comment).takeWhile (fun c => c != ';') = line.takeWhile fun c => c != ';' := by
    rw [List.takeWhile_append_of_pos hline, List.takeWhile_cons_of_neg (by simp), List.append_nil,
      List.takeWhile_eq_self_iff.mpr hline]
  simp only [assembleLine, hcut]

/-- Settles O59: one lemma per form, of its command, its ranges and its number of operands. -/
theorem assemblerFollowsItsForms : Obligations.AssemblerFollowsItsForms := by
  refine ⟨fun mn i h => assemble_plainForms h, fun mn mk h => ⟨fun a => ?_, fun ns => assemble_argForms_length h⟩,
    ⟨fun a d => ⟨fun ⟨h0, h255, hd⟩ => assemble_scaleMv_in_range ⟨h0, h255⟩ hd, assemble_scaleMv_out_of_range⟩,
      fun ns => assemble_scaleMv_length⟩,
    ⟨fun d => ?_, fun ns => assemble_scaleTemp_length⟩, fun mn ns => assemble_unknown ns,
    fun line comment => assembleLine_comment comment⟩
  · rw [assemble_argForms h]
    exact ⟨asmArg_of_le mk, asmArg_none mk⟩
  · rw [assemble_scaleTemp]
    exact ⟨fun hd => by rw [asmData_of_le hd]; rfl, fun hd => by rw [asmData_none hd]; rfl⟩

end Sys2Proof.Proofs
end

/-! # Proofs about the codec by its bits, and the setters (spec/40_codec.md) -/

section
namespace Sys2Proof.Proofs

open Sys2Proof.Machine

/-! ## The round trip from the word's side (R102) -/

/-- Reading a word and packing it again sets the reserved bit and changes no other. -/
theorem encodeFields_decodeFields (w : ConfigWord) : encodeFields (decodeFields w).2 = w ||| 0x8000 := by
  apply BitVec.eq_of_getLsbD_eq
  intro i hi
  interval_cases i <;> simp [encodeFields, decodeFields, fieldsOf]

theorem or_reserved_eq_self_iff (w : ConfigWord) : w ||| 0x8000 = w ↔ w.getLsbD 15 = true := by
  constructor
  · intro h
    rw [← h]
    simp
  · intro h
    apply BitVec.eq_of_getLsbD_eq
    intro i hi
    interval_cases i <;> simp_all

/-- Settles O1: both directions are what the codec reads from what it packed. -/
theorem fieldCodecRoundTrips : Obligations.FieldCodecRoundTrips := by
  refine ⟨decodeFields_encodeFields, fun w => ⟨?_, fun _ => encodeFields_decodeFields w⟩⟩
  rw [encodeFields_decodeFields]
  exact or_reserved_eq_self_iff w

/-! ## The written field by its bits (R103) -/

theorem updateFields_withRate (v : BitVec 3) (w : ConfigWord) :
    updateFields (Fields.withRate v) w = (w &&& ~~~0x0700#16) ||| 0x8000#16 ||| (v.setWidth 16 <<< 8) := by
  apply BitVec.eq_of_getLsbD_eq
  intro i hi
  interval_cases i <;> simp [updateFields, encodeFields, decodeFields, fieldsOf, Fields.withRate]

theorem updateFields_withGain (v : BitVec 3) (w : ConfigWord) :
    updateFields (Fields.withGain v) w = (w &&& ~~~0x0070#16) ||| 0x8000#16 ||| (v.setWidth 16 <<< 4) := by
  apply BitVec.eq_of_getLsbD_eq
  intro i hi
  interval_cases i <;> simp [updateFields, encodeFields, decodeFields, fieldsOf, Fields.withGain]

theorem updateFields_withMux (v : BitVec 3) (w : ConfigWord) :
    updateFields (Fields.withMux v) w = (w &&& ~~~0x000E#16) ||| 0x8000#16 ||| (v.setWidth 16 <<< 1) := by
  apply BitVec.eq_of_getLsbD_eq
  intro i hi
  interval_cases i <;> simp [updateFields, encodeFields, decodeFields, fieldsOf, Fields.withMux]

theorem updateFields_withOpmode (v : BitVec 1) (w : ConfigWord) :
    updateFields (Fields.withOpmode v) w = (w &&& ~~~0x0080#16) ||| 0x8000#16 ||| (v.setWidth 16 <<< 7) := by
  apply BitVec.eq_of_getLsbD_eq
  intro i hi
  interval_cases i <;> simp [updateFields, encodeFields, decodeFields, fieldsOf, Fields.withOpmode]

theorem updateFields_withPullup (v : BitVec 1) (w : ConfigWord) :
    updateFields (Fields.withPullup v) w = (w &&& ~~~0x1000#16) ||| 0x8000#16 ||| (v.setWidth 16 <<< 12) := by
  apply BitVec.eq_of_getLsbD_eq
  intro i hi
  interval_cases i <;> simp [updateFields, encodeFields, decodeFields, fieldsOf, Fields.withPullup]

/-- The staged word by its bits (R172). -/
theorem stagedWord_eq_stagedBits (m : SensorMode) (c : BitVec 3) (s : State) :
    stagedWord m c s = stagedBits m c s.cfg := by
  apply BitVec.eq_of_getLsbD_eq
  intro i hi
  cases m <;> interval_cases i <;> simp [stagedWord, stagedBits, stagedMux, SensorMode.code, State.cfgMux, updateFields,
    encodeFields, decodeFields, fieldsOf, Fields.withSensor, Fields.withMux]

/-! ## The setters (R104) -/

/-- An operand that fits the field is the same number in the word. -/
theorem setWidth_ofNat {width a : Nat} (ha : a < 2 ^ width) :
    (BitVec.ofNat width a).setWidth 16 = BitVec.ofNat 16 a := by
  apply BitVec.eq_of_toNat_eq
  simp [Nat.mod_eq_of_lt ha]

/-- The common setter behaviour of R104 with a field that lies at `mask` meets the claim on setters. -/
theorem setterClaim_of_runSetter {width max lsb : Nat} {op : BitVec 4} {mk : Nat → Instr} {mask : ConfigWord}
    {write : BitVec width → Fields → Fields} (hdec : DecodesBy op fun w => formArg w mk)
    (hexec : ∀ a s, exec (mk a) s = .next (runSetter width max write a (acceptOp op s))) (hmax : max < 2 ^ width)
    (hbits : ∀ v w, updateFields (write v) w = (w &&& ~~~mask) ||| 0x8000#16 ||| (v.setWidth 16 <<< lsb)) :
    setterClaim op mk max lsb mask := by
  refine ⟨encodesAs_of_formArg hdec, fun a s => ⟨fun hle => ?_, fun hgt => ?_⟩⟩
  · rw [hexec, runSetter_of_le write _ hle, acceptOp_cfg, hbits, setWidth_ofNat (hle.trans_lt hmax)]
    rfl
  · rw [hexec, runSetter_of_gt write _ hgt]
    rfl

/-- Settles O18: SET_RATE is the common setter behaviour, and `rate` lies at bits 10:8. -/
theorem setRateWritesItsField : Obligations.SetRateWritesItsField :=
  setterClaim_of_runSetter decodesBy_setRate (fun _ _ => rfl) (by decide) updateFields_withRate

/-- Settles O19: SET_GAIN is the common setter behaviour, and `gain` lies at bits 6:4. -/
theorem setGainWritesItsField : Obligations.SetGainWritesItsField :=
  setterClaim_of_runSetter decodesBy_setGain (fun _ _ => rfl) (by decide) updateFields_withGain

/-- Settles O20: SET_MUX is the common setter behaviour, and `mux` lies at bits 3:1. -/
theorem setMuxWritesItsField : Obligations.SetMuxWritesItsField :=
  setterClaim_of_runSetter decodesBy_setMux (fun _ _ => rfl) (by decide) updateFields_withMux

/-- Settles O21: SET_OPMODE is the common setter behaviour, and `opmode` lies at bit 7. -/
theorem setOpmodeWritesItsField : Obligations.SetOpmodeWritesItsField :=
  setterClaim_of_runSetter decodesBy_setOpmode (fun _ _ => rfl) (by decide) updateFields_withOpmode

/-- Settles O22: SET_PULLUP is the common setter behaviour, and `pullup` lies at bit 12. -/
theorem setPullupWritesItsField : Obligations.SetPullupWritesItsField :=
  setterClaim_of_runSetter decodesBy_setPullup (fun _ _ => rfl) (by decide) updateFields_withPullup

end Sys2Proof.Proofs
end

/-! # Proofs about the timing table and the scaler (spec/41_timing_table.md, spec/44_value_conversion.md) -/

section
namespace Sys2Proof.Proofs

open Sys2Proof.Machine

/-! ## The timing table (R130) -/

theorem lat_lt : ∀ rate : BitVec 3, (lat rate).toNat < 2 ^ 7 := by decide

theorem lat_toNat : ∀ rate : BitVec 3, (lat rate).toNat = latMs rate.toNat := by decide

/-- The table falls as the rate code rises. -/
theorem lat_strictAnti : ∀ r q : BitVec 3, r.toNat < q.toNat → (lat q).toNat < (lat r).toNat := by decide

/-- Settles O24: the three facts of the eight entries. -/
theorem latencyTableAsPrinted : Obligations.LatencyTableAsPrinted :=
  fun r => ⟨lat_toNat r, lat_lt r, lat_strictAnti r⟩

/-- An entry of the table in a wider register (R131). -/
theorem lat_setWidth (n : Nat) {a : Nat} (ha : a ≤ 7) :
    (lat (BitVec.ofNat 3 a)).setWidth n = BitVec.ofNat n (latMs a) := by
  have hlat := lat_toNat (BitVec.ofNat 3 a)
  rw [BitVec.toNat_ofNat, Nat.mod_eq_of_lt (by omega)] at hlat
  apply BitVec.eq_of_toNat_eq
  rw [BitVec.toNat_setWidth, BitVec.toNat_ofNat, hlat]

theorem respondLatency_cases (a : Nat) (s : State) :
    (7 < a ∧ respondLatency a s = respondError .outOfRange s) ∨
      (a ≤ 7 ∧ respondLatency a s = respond .ok (BitVec.ofNat 16 (latMs a)) (BitVec.ofNat 21 (latMs a)) s) := by
  obtain ⟨h, e⟩ | ⟨h, e⟩ := checkedField_cases 3 7 a
  · exact .inl ⟨h, by simp [respondLatency, e]⟩
  · exact .inr ⟨h, by simp only [respondLatency, e, lat_setWidth _ h]⟩

/-- Settles O25: in range the table's entry is put in both registers, above it the answer is the error. -/
theorem latencyReportsTheTable : Obligations.LatencyReportsTheTable := by
  refine ⟨encodesAs_of_formArg decodesBy_latency, fun a s => ?_⟩
  have hexec : exec (.latency a) s = .next (respondLatency a (acceptOp Op.latency s)) := rfl
  rw [hexec]
  obtain ⟨h, e⟩ | ⟨h, e⟩ := respondLatency_cases a (acceptOp Op.latency s) <;> rw [e]
  · exact ⟨fun hle => by omega, fun _ => rfl⟩
  · exact ⟨fun _ => rfl, fun hgt => by omega⟩

/-! ## The millivolt scaling (R200, R201) -/

theorem scaleFactor_mul : ∀ g : BitVec 3, scaleFactor g.toNat * 32768 = fullScaleMv g.toNat * 128 := by decide

theorem scaleFactor_bounds : ∀ g : BitVec 3, 1 ≤ scaleFactor g.toNat ∧ scaleFactor g.toNat ≤ 24 := by decide

/-- Settles O28: the factor is the full scale over 256, and the extreme codes with the largest factor give the bounds. -/
theorem millivoltScalingIsExact : Obligations.MillivoltScalingIsExact := by
  intro code g
  have hlow : -2 ^ 15 ≤ code.toInt := BitVec.le_toInt code
  have hhigh : code.toInt < 2 ^ 15 := BitVec.toInt_lt
  obtain ⟨hmin, hmax⟩ := scaleFactor_bounds g
  rw [scaleMvQ7_toInt]
  refine ⟨?_, by nlinarith, by nlinarith⟩
  calc code.toInt * scaleFactor g.toNat * 32768 = code.toInt * (scaleFactor g.toNat * 32768) := mul_assoc ..
    _ = code.toInt * fullScaleMv g.toNat * 128 := by rw [scaleFactor_mul, mul_assoc]

theorem respondMillivolts_cases (a : Nat) (d : Sample) (s : State) :
    (7 < a ∧ respondMillivolts a d s = respondError .outOfRange s) ∨
      (a ≤ 7 ∧ respondMillivolts a d s = respond .ok d (scaleMvQ7 d (BitVec.ofNat 3 a)) s) := by
  obtain ⟨h, e⟩ | ⟨h, e⟩ := checkedField_cases 3 7 a
  · exact .inl ⟨h, by simp [respondMillivolts, e]⟩
  · exact .inr ⟨h, by simp [respondMillivolts, e]⟩

/-- Settles O26: in range the answer is the code with its Q7 value, above it the error. -/
theorem scaleMvScalesItsCode : Obligations.ScaleMvScalesItsCode := by
  refine ⟨encodesAs_scaleMv, fun a d s => ?_⟩
  have hexec : exec (.scaleMv a d) s = .next (respondMillivolts a d (acceptOp Op.scaleMv s)) := rfl
  rw [hexec]
  obtain ⟨h, e⟩ | ⟨h, e⟩ := respondMillivolts_cases a d (acceptOp Op.scaleMv s) <;> rw [e]
  · exact ⟨fun hle => by omega, fun _ => rfl⟩
  · refine ⟨fun _ => ⟨scaleMvQ7 d (BitVec.ofNat 3 a), ?_, rfl⟩, fun hgt => by omega⟩
    rw [scaleMvQ7_toInt, BitVec.toNat_ofNat, Nat.mod_eq_of_lt (by omega)]

end Sys2Proof.Proofs
end

/-! # Proofs about the acquisition commands (spec/43_conversion_fsm.md, spec/45_device_interface.md) -/

section
namespace Sys2Proof.Proofs

open Sys2Proof.Machine

/-! ## The start of an acquisition (R171, R172, R178) -/

theorem waitEvent_eq (w : ConfigWord) : waitEvent w = .timerStart (lat (decodeFields w).2.rate) := by
  rw [lat_eq_latMs]
  rfl

/-- The change test of R171 on the bits of `cfg` is the model's. -/
theorem needDiscard_iff_changeNeeded (m : SensorMode) (c : BitVec 3) (s : State) :
    needDiscard m c s = true ↔ changeNeeded m c s := by
  cases m <;> simp [needDiscard, changeNeeded, SensorMode.asLast, State.cfgMux, decodeFields, fieldsOf]

theorem startBlocking_of_change {m : SensorMode} {c : BitVec 3} {s : State} (h : changeNeeded m c s) :
    startBlocking m c s = { s with
      reqMode := m, reqChan := c, txWord := stagedBits m c s.cfg, phase := .discard, seq := .txBegin } := by
  rw [← stagedWord_eq_stagedBits]
  exact if_pos ((needDiscard_iff_changeNeeded m c s).mpr h)

theorem startBlocking_of_no_change {m : SensorMode} {c : BitVec 3} {s : State} (h : ¬ changeNeeded m c s) :
    startBlocking m c s = { s with
      reqMode := m, reqChan := c, seq := .wait, events := s.events ++ [waitEvent s.cfg] } := by
  rw [waitEvent_eq]
  exact if_neg fun hneed => h ((needDiscard_iff_changeNeeded m c s).mp hneed)

/-- A command whose accept step starts a blocking acquisition meets the claim on such starts. -/
theorem blockingStartClaim_of_exec {op : BitVec 4} {i : Instr} {m : SensorMode} {c : BitVec 3} {s : State}
    (hexec : exec i s = .next (startBlocking m c (acceptOp op s))) : blockingStartClaim op i m c s :=
  ⟨fun h => hexec.trans (congrArg _ (startBlocking_of_change (s := acceptOp op s) h)),
    fun h => hexec.trans (congrArg _ (startBlocking_of_no_change (s := acceptOp op s) h))⟩

theorem drdyLevel_eq_false_iff (s : State) : s.drdyLevel = false ↔ s.hasDrdy = true ∧ s.ports.drdyN = false := by
  cases h : s.hasDrdy <;> simp [State.drdyLevel, h]

theorem nonBlockingStartClaim_of_exec {op : BitVec 4} {i : Instr} {s : State}
    (hexec : exec i s = .next (startNonBlocking (acceptOp op s))) : nonBlockingStartClaim op i s := by
  have hline : (acceptOp op s).drdyLevel = false ↔ s.hasDrdy = true ∧ s.ports.drdyN = false :=
    drdyLevel_eq_false_iff (acceptOp op s)
  obtain ⟨h, e⟩ | ⟨h, e⟩ := startNonBlocking_cases (acceptOp op s) <;> rw [e] at hexec
  · exact ⟨fun hready => absurd (hline.mpr hready) (by simp [h]), fun _ => hexec⟩
  · exact ⟨fun _ => hexec, fun hready => absurd (hline.mp h) hready⟩

/-! ## The accept step of each acquisition command -/

theorem exec_readAdc_of_le {a : Nat} {s : State} (h : a ≤ 7) :
    exec (.readAdc a) s = .next (startBlocking .adc (BitVec.ofNat 3 a) (acceptOp 0x7 s)) := by
  obtain ⟨hgt, -⟩ | ⟨-, e⟩ := startChannelRead_cases 0x7 a s
  · omega
  · exact congrArg _ e

theorem exec_readMv_of_le {a : Nat} {s : State} (h : a ≤ 7) :
    exec (.readMv a) s = .next (startBlocking .adc (BitVec.ofNat 3 a) (acceptOp 0x8 s)) := by
  obtain ⟨hgt, -⟩ | ⟨-, e⟩ := startChannelRead_cases 0x8 a s
  · omega
  · exact congrArg _ e

/-- A channel above 7 is answered before `curOp` is written (R180). -/
theorem startChannelRead_of_gt {op : BitVec 4} {a : Nat} {s : State} (h : 7 < a) :
    startChannelRead op a s = answered s.curOp .outOfRange 0 0 s := by
  obtain ⟨-, e⟩ | ⟨hle, -⟩ := startChannelRead_cases op a s
  · exact e
  · omega

theorem exec_readAdc_of_gt {a : Nat} {s : State} (h : 7 < a) :
    exec (.readAdc a) s = .next (answered s.curOp .outOfRange 0 0 s) := congrArg _ (startChannelRead_of_gt h)

theorem exec_readMv_of_gt {a : Nat} {s : State} (h : 7 < a) :
    exec (.readMv a) s = .next (answered s.curOp .outOfRange 0 0 s) := congrArg _ (startChannelRead_of_gt h)

theorem exec_readRaw (s : State) :
    exec .readRaw s = .next (startBlocking (rawMode s) (s.cfg.extractLsb' 1 3) (acceptOp 0xB s)) := rfl

theorem exec_readTemp (s : State) :
    exec .readTemp s = .next (startBlocking .temperature (s.cfg.extractLsb' 1 3) (acceptOp 0xC s)) := rfl

theorem exec_readAdcNw (s : State) : exec .readAdcNw s = .next (startNonBlocking (acceptOp 0x9 s)) := rfl

theorem exec_readMvNw (s : State) : exec .readMvNw s = .next (startNonBlocking (acceptOp 0xA s)) := rfl

theorem rawMode_of_adc {s : State} (h : s.lastMode = .adc) : rawMode s = .adc := by simp [rawMode, h]

theorem rawMode_of_temperature {s : State} (h : s.lastMode = .temperature) : rawMode s = .temperature := by
  simp [rawMode, h]

theorem extractLsb'_one_eq_one_iff (w : ConfigWord) (k : Nat) : w.extractLsb' k 1 = 1#1 ↔ w.getLsbD k = true := by
  constructor
  · intro h
    simpa using congrArg (fun x : BitVec 1 => x.getLsbD 0) h
  · intro h
    apply BitVec.eq_of_getLsbD_eq
    intro i hi
    interval_cases i
    simpa using h

theorem rawMode_of_uninitialized {s : State} (h : s.lastMode = .uninitialized) :
    rawMode s = if s.cfg.getLsbD 11 = true then .temperature else .adc := by
  have hbit : s.cfgSensor = 1 ↔ s.cfg.getLsbD 11 = true := extractLsb'_one_eq_one_iff s.cfg 11
  simp only [rawMode, h, hbit]

/-! ## The end of an acquisition (R177) -/

/-- A command with a row in the table of R177 is answered with the row's value, or with BUS_ERROR. -/
theorem completionClaim_of_deliveredInt {op : BitVec 4} {value : Sample → ConfigWord → Int}
    (hvalue : ∀ sample cfg, deliveredInt op sample cfg = some (value sample cfg)) : completionClaim op value := by
  intro s hq hseq hop hphase
  obtain ⟨hfailed, -, hdelivered⟩ := frameEndFailsCommitsOrDelivers s hq hseq
  exact ⟨fun hok => hdelivered hok hphase _ (hop ▸ hvalue _ _), hfailed⟩

/-- Settles O31: opcode 7 takes a channel and its table row is 0. -/
theorem readAdcStartsAndDelivers : Obligations.ReadAdcStartsAndDelivers :=
  ⟨encodesAs_of_formArg decodesBy_readAdc,
    fun _ _ => ⟨fun h => blockingStartClaim_of_exec (exec_readAdc_of_le h), exec_readAdc_of_gt⟩,
    completionClaim_of_deliveredInt fun _ _ => rfl⟩

/-- Settles O32: opcode 8 takes a channel and its table row is the Q7 value. -/
theorem readMvStartsAndDelivers : Obligations.ReadMvStartsAndDelivers :=
  ⟨encodesAs_of_formArg decodesBy_readMv,
    fun _ _ => ⟨fun h => blockingStartClaim_of_exec (exec_readMv_of_le h), exec_readMv_of_gt⟩,
    completionClaim_of_deliveredInt fun _ _ => rfl⟩

/-- Settles O33: READ_RAW starts in the mode of R233, case by case of `lastMode`. -/
theorem readRawStartsAndDelivers : Obligations.ReadRawStartsAndDelivers := by
  refine ⟨encodesAs_of_formNone decodesBy_readRaw, fun s => ⟨fun h => ?_, fun h => ?_, fun h => ?_⟩,
    completionClaim_of_deliveredInt fun _ _ => rfl⟩
  · exact blockingStartClaim_of_exec (rawMode_of_adc h ▸ exec_readRaw s)
  · exact blockingStartClaim_of_exec (rawMode_of_temperature h ▸ exec_readRaw s)
  · exact blockingStartClaim_of_exec (rawMode_of_uninitialized h ▸ exec_readRaw s)

/-- Settles O34: READ_TEMP starts in temperature mode on the channel held, and its table row is the Q3 value. -/
theorem readTempStartsAndDelivers : Obligations.ReadTempStartsAndDelivers :=
  ⟨encodesAs_of_formNone decodesBy_readTemp, fun s => blockingStartClaim_of_exec (exec_readTemp s),
    completionClaim_of_deliveredInt fun _ _ => rfl⟩

/-- Settles O35: READ_ADC_NW starts without a wait where the line is asserted. -/
theorem readAdcNwStartsAndDelivers : Obligations.ReadAdcNwStartsAndDelivers :=
  ⟨encodesAs_of_formNone decodesBy_readAdcNw, fun s => nonBlockingStartClaim_of_exec (exec_readAdcNw s),
    completionClaim_of_deliveredInt fun _ _ => rfl⟩

/-- Settles O36: READ_MV_NW starts as READ_ADC_NW and its table row is the Q7 value. -/
theorem readMvNwStartsAndDelivers : Obligations.ReadMvNwStartsAndDelivers :=
  ⟨encodesAs_of_formNone decodesBy_readMvNw, fun s => nonBlockingStartClaim_of_exec (exec_readMvNw s),
    completionClaim_of_deliveredInt fun _ _ => rfl⟩

end Sys2Proof.Proofs
end

/-! # What a step can do, once (spec/45_device_interface.md R221, spec/60_exceptions.md R259) -/

section
namespace Sys2Proof.Proofs

open Sys2Proof.Machine Sys2Proof.Laws

/-! ## What the accept step of a command can do -/

/-- What `curOp` holds after the accept step of a command: its opcode, but the old value for a READ_ADC or READ_MV with a
channel above 7 (R180, R231). -/
def curOpAfter (i : Instr) (s : State) : BitVec 4 :=
  match i with
  | .readAdc a => if 7 < a then s.curOp else 0x7
  | .readMv a => if 7 < a then s.curOp else 0x8
  | i => EncodedFields.opcodeOf i

/-- The opcode of an acquisition command. -/
abbrev isAcquisitionOp (op : BitVec 4) : Bool := isBlockingOp op || isNonBlockingOp op

/-- An update of the field record that leaves the members without a setter (R110). -/
def KeepsUnset (upd : Fields → Fields) : Prop :=
  ∀ f : Fields, (upd f).noop = f.noop ∧ (upd f).sensor = f.sensor ∧ (upd f).start = f.start

/-- The states that the accept step of a command can lead to, one constructor per way. -/
inductive AcceptEffect (i : Instr) (s : State) : State → Prop
  | error {status : Status} (hstatus : status ≠ .ok) : AcceptEffect i s (answered (curOpAfter i s) status 0 0 s)
  | result {raw : BitVec 16} {value : ScaledValue} (hop : isAcquisitionOp (curOpAfter i s) = false) :
    AcceptEffect i s (answered (curOpAfter i s) .ok raw value s)
  | set {upd : Fields → Fields} (hop : isAcquisitionOp (curOpAfter i s) = false) (hupd : KeepsUnset upd) :
    AcceptEffect i s (answered (curOpAfter i s) .ok (updateFields upd s.cfg) 0 { s with cfg := updateFields upd s.cfg })
  | init (hi : i = .init) : AcceptEffect i s
    (answered (curOpAfter i s) .ok 0xB0F1 0 { s with cfg := 0xB0F1, lastMode := .uninitialized })
  | discard {m : SensorMode} {c : BitVec 3} (hop : isBlockingOp (curOpAfter i s) = true)
    (hneed : needDiscard m c s = true) : AcceptEffect i s { started (curOpAfter i s) s with
      reqMode := m, reqChan := c, txWord := stagedWord m c s, phase := .discard, seq := .txBegin }
  | wait {m : SensorMode} {c : BitVec 3} {ms : BitVec 8} (hop : isBlockingOp (curOpAfter i s) = true)
    (hneed : needDiscard m c s = false) : AcceptEffect i s { started (curOpAfter i s) s with
      reqMode := m, reqChan := c, seq := .wait, events := s.events ++ [.timerStart ms] }
  | nowait (hop : isNonBlockingOp (curOpAfter i s) = true) : AcceptEffect i s { started (curOpAfter i s) s with
      txWord := s.cfg, phase := .nowait, seq := .txBegin }

/-- The command's accept step answers a next state, and it is one of those of `AcceptEffect`. -/
def Accepts (i : Instr) (s : State) : Prop := ∃ t, exec i s = .next t ∧ AcceptEffect i s t

theorem accepts_of_runSetter {width max a : Nat} {write : BitVec width → Fields → Fields} {i : Instr} {s : State}
    (hexec : exec i s = .next (runSetter width max write a (acceptOp (curOpAfter i s) s)))
    (hop : isAcquisitionOp (curOpAfter i s) = false) (hwrite : ∀ v, KeepsUnset (write v)) : Accepts i s := by
  obtain ⟨-, e⟩ | ⟨-, e⟩ := runSetter_cases width max write a (acceptOp (curOpAfter i s) s)
  · exact ⟨_, hexec.trans (congrArg _ e), .error (status := .outOfRange) nofun⟩
  · exact ⟨_, hexec.trans (congrArg _ e), .set hop (hwrite _)⟩

theorem accepts_of_startBlocking {m : SensorMode} {c : BitVec 3} {i : Instr} {s : State}
    (hexec : exec i s = .next (startBlocking m c (acceptOp (curOpAfter i s) s)))
    (hop : isBlockingOp (curOpAfter i s) = true) : Accepts i s := by
  obtain ⟨h, e⟩ | ⟨h, e⟩ := startBlocking_cases m c (acceptOp (curOpAfter i s) s)
  · exact ⟨_, hexec.trans (congrArg _ e), .discard hop h⟩
  · exact ⟨_, hexec.trans (congrArg _ e), .wait hop h⟩

theorem accepts_of_startNonBlocking {i : Instr} {s : State}
    (hexec : exec i s = .next (startNonBlocking (acceptOp (curOpAfter i s) s)))
    (hop : isNonBlockingOp (curOpAfter i s) = true) : Accepts i s := by
  obtain ⟨-, e⟩ | ⟨-, e⟩ := startNonBlocking_cases (acceptOp (curOpAfter i s) s)
  · exact ⟨_, hexec.trans (congrArg _ e), .error (status := .notReady) nofun⟩
  · exact ⟨_, hexec.trans (congrArg _ e), .nowait hop⟩

theorem curOpAfter_readAdc_of_gt {a : Nat} (s : State) (h : 7 < a) : curOpAfter (.readAdc a) s = s.curOp := if_pos h
theorem curOpAfter_readMv_of_gt {a : Nat} (s : State) (h : 7 < a) : curOpAfter (.readMv a) s = s.curOp := if_pos h
theorem curOpAfter_readAdc_of_le {a : Nat} (s : State) (h : a ≤ 7) : curOpAfter (.readAdc a) s = 0x7 :=
  if_neg (by omega)
theorem curOpAfter_readMv_of_le {a : Nat} (s : State) (h : a ≤ 7) : curOpAfter (.readMv a) s = 0x8 :=
  if_neg (by omega)

/-- Every command's accept step answers a next state, in one of the seven ways. -/
theorem exec_accepts (i : Instr) (s : State) : Accepts i s := by
  cases i with
  | init => exact ⟨_, exec_init s, .init rfl⟩
  | setRate a => exact accepts_of_runSetter (write := Fields.withRate) rfl rfl fun _ _ => ⟨rfl, rfl, rfl⟩
  | setGain a => exact accepts_of_runSetter (write := Fields.withGain) rfl rfl fun _ _ => ⟨rfl, rfl, rfl⟩
  | setMux a => exact accepts_of_runSetter (write := Fields.withMux) rfl rfl fun _ _ => ⟨rfl, rfl, rfl⟩
  | setOpmode a => exact accepts_of_runSetter (write := Fields.withOpmode) rfl rfl fun _ _ => ⟨rfl, rfl, rfl⟩
  | setPullup a => exact accepts_of_runSetter (write := Fields.withPullup) rfl rfl fun _ _ => ⟨rfl, rfl, rfl⟩
  | readAdc a =>
    by_cases h : 7 < a
    · exact ⟨_, exec_readAdc_of_gt h, curOpAfter_readAdc_of_gt s h ▸ .error (status := .outOfRange) nofun⟩
    · have hop := curOpAfter_readAdc_of_le s (not_lt.mp h)
      exact accepts_of_startBlocking (hop ▸ exec_readAdc_of_le (not_lt.mp h)) (hop ▸ rfl)
  | readMv a =>
    by_cases h : 7 < a
    · exact ⟨_, exec_readMv_of_gt h, curOpAfter_readMv_of_gt s h ▸ .error (status := .outOfRange) nofun⟩
    · have hop := curOpAfter_readMv_of_le s (not_lt.mp h)
      exact accepts_of_startBlocking (hop ▸ exec_readMv_of_le (not_lt.mp h)) (hop ▸ rfl)
  | readAdcNw => exact accepts_of_startNonBlocking rfl rfl
  | readMvNw => exact accepts_of_startNonBlocking rfl rfl
  | readRaw => exact accepts_of_startBlocking rfl rfl
  | readTemp => exact accepts_of_startBlocking rfl rfl
  | latency a =>
    obtain ⟨-, e⟩ | ⟨-, e⟩ := respondLatency_cases a (acceptOp Op.latency s)
    · exact ⟨_, congrArg Host.Outcome.next e, .error (status := .outOfRange) nofun⟩
    · exact ⟨_, congrArg Host.Outcome.next e, .result rfl⟩
  | scaleMv a d =>
    obtain ⟨-, e⟩ | ⟨-, e⟩ := respondMillivolts_cases a d (acceptOp Op.scaleMv s)
    · exact ⟨_, congrArg Host.Outcome.next e, .error (status := .outOfRange) nofun⟩
    · exact ⟨_, congrArg Host.Outcome.next e, .result rfl⟩
  | scaleTemp d => exact ⟨_, exec_scaleTemp d s, .result rfl⟩

/-! ## What a step without reset can do -/

/-- The input that the sequencer state needs does not come: the block holds (R176, R220, R293). -/
def Holds (s : State) : Prop :=
  (s.seq = .idle ∧ s.ports.cmdValid = false) ∨ (s.seq = .txXfer ∧ s.ports.xfer = .pending) ∨
    (s.seq = .wait ∧ s.ports.timerExpired = false)

/-- The states that a step without reset can lead to before the environment goes on, one constructor per way. -/
inductive SeqEffect (s : State) : State → Prop
  | hold (h : Holds s) : SeqEffect s s
  | illegal {r : Reject} (hseq : s.seq = .idle) (hvalid : s.ports.cmdValid = true)
    (hdec : decode s.ports.cmdWord = .error r) : SeqEffect s (answered s.curOp .illegal 0 0 s)
  | accept {i : Instr} {t : State} (hseq : s.seq = .idle) (hvalid : s.ports.cmdValid = true)
    (hdec : decode s.ports.cmdWord = .ok i) (hacc : AcceptEffect i s t) : SeqEffect s t
  | frameBegin (hseq : s.seq = .txBegin) : SeqEffect s (txBegin s)
  | transfer {b : Byte} (hseq : s.seq = .txXfer) (hxfer : s.ports.xfer = .byte b) : SeqEffect s (xferByte b s)
  | transferFail (hseq : s.seq = .txXfer) (hxfer : s.ports.xfer = .fail) : SeqEffect s (xferFail s)
  | frameFail (hseq : s.seq = .txEnd) (hfail : s.txFail = true) : SeqEffect s (raiseStatus .busError (closeFrame s))
  | commit (hseq : s.seq = .txEnd) (hok : s.txFail = false) (hphase : s.phase = .discard) :
    SeqEffect s (commit (closeFrame s))
  | deliver (hseq : s.seq = .txEnd) (hok : s.txFail = false) (hphase : s.phase ≠ .discard) :
    SeqEffect s (deliver (closeFrame s))
  | expire (hseq : s.seq = .wait) (hexpired : s.ports.timerExpired = true) :
    SeqEffect s { s with txWord := s.cfg, phase := .final, seq := .txBegin }

theorem seqStep_idle_effect {s : State} (hseq : s.seq = .idle) : ∃ t, idleStep s = .next t ∧ SeqEffect s t := by
  cases hvalid : s.ports.cmdValid with
  | false => exact ⟨s, idleStep_none (presented_none hvalid), .hold (.inl ⟨hseq, hvalid⟩)⟩
  | true =>
    have hword : s.presented = some s.ports.cmdWord := presented_of_valid hvalid rfl
    cases hdec : decode s.ports.cmdWord with
    | error r => exact ⟨_, idleStep_error hword hdec, .illegal hseq hvalid hdec⟩
    | ok i =>
      obtain ⟨t, hexec, hacc⟩ := exec_accepts i s
      exact ⟨t, (idleStep_ok hword hdec).trans hexec, .accept hseq hvalid hdec hacc⟩

theorem txXfer_effect {s : State} (hseq : s.seq = .txXfer) : SeqEffect s (txXfer s) := by
  obtain ⟨hx, e⟩ | ⟨b, hx, e⟩ | ⟨hx, e⟩ := txXfer_cases s <;> rw [e]
  · exact .hold (.inr (.inl ⟨hseq, hx⟩))
  · exact .transfer hseq hx
  · exact .transferFail hseq hx

theorem txEnd_effect {s : State} (hseq : s.seq = .txEnd) : SeqEffect s (txEnd s) := by
  rw [txEnd_eq_completeFrame]
  obtain ⟨hfail, e⟩ | ⟨hok, hphase, e⟩ | ⟨hok, hphase, e⟩ := completeFrame_cases (closeFrame s) <;> rw [e]
  · exact .frameFail hseq hfail
  · exact .commit hseq hok hphase
  · exact .deliver hseq hok hphase

theorem waitStep_effect {s : State} (hseq : s.seq = .wait) : SeqEffect s (waitStep s) := by
  obtain ⟨hexp, e⟩ | ⟨hexp, e⟩ := waitStep_cases s <;> rw [e]
  · exact .hold (.inr (.inr ⟨hseq, hexp⟩))
  · exact .expire hseq hexp

theorem seqStep_effect (s : State) : ∃ t, seqStep s = .next t ∧ SeqEffect s t := by
  unfold seqStep
  cases hseq : s.seq with
  | idle => exact seqStep_idle_effect hseq
  | txBegin => exact ⟨_, rfl, .frameBegin hseq⟩
  | txXfer => exact ⟨_, rfl, txXfer_effect hseq⟩
  | txEnd => exact ⟨_, rfl, txEnd_effect hseq⟩
  | wait => exact ⟨_, rfl, waitStep_effect hseq⟩

/-- A step without reset is one of the ten ways of `SeqEffect`, and then the environment goes on. -/
theorem step_quiet_effect {s : State} (hq : quiet s.ports) : ∃ u, step s = .next (advance u) ∧ SeqEffect s u := by
  obtain ⟨u, hstep, heff⟩ := seqStep_effect s
  exact ⟨u, by rw [step_of_quiet hq, hstep]; rfl, heff⟩

theorem seqEffect_of_step {s t : State} (hq : quiet s.ports) (h : step s = .next t) :
    ∃ u, t = advance u ∧ SeqEffect s u := by
  obtain ⟨u, hstep, heff⟩ := step_quiet_effect hq
  exact ⟨u, Host.Outcome.next.inj (h.symm.trans hstep), heff⟩

theorem eq_of_step_reset {s t : State} (hr : s.ports.reset = true) (h : step s = .next t) : t = advance (resetStep s) :=
  Host.Outcome.next.inj (h.symm.trans (step_of_reset hr))

/-- Every step is the reset step or one of the ten ways without reset, and then the environment goes on. -/
theorem step_cases {s t : State} (h : step s = .next t) :
    (s.ports.reset = true ∧ t = advance (resetStep s)) ∨
      (quiet s.ports ∧ ∃ u, t = advance u ∧ SeqEffect s u) := by
  cases hr : s.ports.reset with
  | true => exact .inl ⟨rfl, eq_of_step_reset hr h⟩
  | false => exact .inr ⟨hr, seqEffect_of_step hr h⟩

/-! ## What every step leaves -/

/-- Every way of accepting a command writes `curOp` and the host's position alike. -/
theorem AcceptEffect.accepted {i : Instr} {s t : State} (h : AcceptEffect i s t) :
    t.hostPos = s.hostPos + 1 ∧ t.curOp = curOpAfter i s := by
  cases h <;> exact ⟨rfl, rfl⟩

/-- The fields that no step writes: the integrator's parameters, and the environment's own before it goes on. -/
def SameOutside (s t : State) : Prop :=
  t.hasDrdy = s.hasDrdy ∧ t.sclkHz = s.sclkHz ∧ t.env = s.env ∧ t.tick = s.tick

/-- What an answered transfer does before the index goes on: it records the byte sent and stores the one received. -/
def storeByte (b : Byte) (s : State) : State :=
  { s with
    events := s.events ++ [.busXfer (outByte s.txWord s.byteIdx)]
    rxBuf := putByte s.rxBuf s.byteIdx b }

/-- An answered transfer counts the index on, or after the fourth goes to TX_END (R142). -/
theorem xferByte_cases (b : Byte) (s : State) :
    (∃ k : Fin 4, k.val = s.byteIdx.val + 1 ∧ xferByte b s = { storeByte b s with byteIdx := k }) ∨
      (s.byteIdx = 3 ∧ xferByte b s = { storeByte b s with seq := .txEnd }) := by
  unfold xferByte
  split
  case h_1 h => exact .inl ⟨1, by simp [h], rfl⟩
  case h_2 h => exact .inl ⟨2, by simp [h], rfl⟩
  case h_3 h => exact .inl ⟨3, by simp [h], rfl⟩
  case h_4 h => exact .inr ⟨h, rfl⟩

/-! What an answered transfer leaves, in both ways. -/

@[simp] theorem xferByte_cfg (b : Byte) (s : State) : (xferByte b s).cfg = s.cfg := by
  obtain ⟨k, -, e⟩ | ⟨-, e⟩ := xferByte_cases b s <;> rw [e] <;> rfl

@[simp] theorem xferByte_lastMode (b : Byte) (s : State) : (xferByte b s).lastMode = s.lastMode := by
  obtain ⟨k, -, e⟩ | ⟨-, e⟩ := xferByte_cases b s <;> rw [e] <;> rfl

theorem xferByte_of_lt {b : Byte} {s : State} {k : Fin 4} (hk : k.val = s.byteIdx.val + 1) :
    xferByte b s = { storeByte b s with byteIdx := k } := by
  obtain ⟨j, hj, e⟩ | ⟨h3, -⟩ := xferByte_cases b s
  · obtain rfl : j = k := Fin.ext (hj.trans hk.symm)
    exact e
  · have := k.isLt
    simp [h3] at hk
    omega

theorem xferByte_of_last {b : Byte} {s : State} (h : s.byteIdx = 3) :
    xferByte b s = { storeByte b s with seq := .txEnd } := by
  obtain ⟨j, hj, -⟩ | ⟨-, e⟩ := xferByte_cases b s
  · have := j.isLt
    simp [h] at hj
    omega
  · exact e

theorem SeqEffect.sameOutside {s t : State} (h : SeqEffect s t) : SameOutside s t := by
  cases h with
  | accept _ _ _ hacc => cases hacc <;> exact ⟨rfl, rfl, rfl, rfl⟩
  | transfer =>
    obtain ⟨k, -, e⟩ | ⟨-, e⟩ := xferByte_cases _ s <;> rw [e] <;> exact ⟨rfl, rfl, rfl, rfl⟩
  | _ => exact ⟨rfl, rfl, rfl, rfl⟩

/-- Every step, a reset too, leaves the integrator's parameters, and the environment goes on after it. -/
theorem sameOutside_of_step {s t : State} (h : step s = .next t) : ∃ u, t = advance u ∧ SameOutside s u := by
  obtain ⟨-, rfl⟩ | ⟨-, u, rfl, heff⟩ := step_cases h
  · exact ⟨_, rfl, rfl, rfl, rfl, rfl⟩
  · exact ⟨u, rfl, heff.sameOutside⟩

/-! ## Which opcode an accepted word leaves in `curOp` -/

theorem opField_encode (i : Instr) : opField (encode i) = EncodedFields.opcodeOf i := by
  cases i <;> exact opField_packWord _ _ _

theorem toNat_argField_readAdc {a : Nat} (hwf : (Instr.readAdc a).wellFormed = true) :
    (argField (encode (.readAdc a))).toNat = a := toNat_argField_packWord (of_decide_eq_true hwf)

theorem toNat_argField_readMv {a : Nat} (hwf : (Instr.readMv a).wellFormed = true) :
    (argField (encode (.readMv a))).toNat = a := toNat_argField_packWord (of_decide_eq_true hwf)

/-- `curOp` after an accepted word, told by the word or by its command. -/
theorem opAfterAccept_of_decode_ok {w : CommandWord} {i : Instr} (h : decode w = .ok i) (s : State) :
    opAfterAccept w s = curOpAfter i s := by
  obtain ⟨hwf, rfl⟩ := wordOf_of_decode_ok h
  have hop : (encode i).extractLsb' 28 4 = EncodedFields.opcodeOf i := opField_encode i
  simp only [opAfterAccept, h, hop]
  cases i with
  | readAdc a =>
    have harg : ((encode (.readAdc a)).extractLsb' 16 8).toNat = a := toNat_argField_readAdc hwf
    simp [harg, EncodedFields.opcodeOf, curOpAfter]
  | readMv a =>
    have harg : ((encode (.readMv a)).extractLsb' 16 8).toNat = a := toNat_argField_readMv hwf
    simp [harg, EncodedFields.opcodeOf, curOpAfter]
  | _ => simp [EncodedFields.opcodeOf, curOpAfter]

theorem opAfterAccept_of_decode_error {w : CommandWord} {r : Reject} (h : decode w = .error r) (s : State) :
    opAfterAccept w s = s.curOp := by
  simp [opAfterAccept, h]

end Sys2Proof.Proofs
end

/-! # The invariant of the registers (spec/10_state.md R22 to R34) -/

section
namespace Sys2Proof.Proofs

open Sys2Proof.Machine

/-! ## The word that `cfg` holds (R22, R24, R25) -/

theorem heldWord_default : heldWord 0xB0F1 := by
  unfold heldWord
  decide

/-- The members of the record that decide whether a word is held. -/
theorem heldWord_iff_fields (w : ConfigWord) :
    heldWord w ↔ w.getLsbD 15 = true ∧ (decodeFields w).2.noop = 1 ∧ (decodeFields w).2.start = 1 := by
  have hstart : (decodeFields w).2.start = 1 ↔ w.getLsbD 0 = true := extractLsb'_one_eq_one_iff w 0
  rw [hstart]
  rfl

/-- An update that leaves `noop` and `start` leaves a held word a held one; the reserved bit is always written 1. -/
theorem heldWord_updateFields {upd : Fields → Fields} {w : ConfigWord}
    (hupd : ∀ f : Fields, (upd f).noop = f.noop ∧ (upd f).start = f.start) (h : heldWord w) :
    heldWord (updateFields upd w) := by
  obtain ⟨-, hnoop, hstart⟩ := (heldWord_iff_fields w).mp h
  obtain ⟨hkeep, hkeep'⟩ := hupd (decodeFields w).2
  refine (heldWord_iff_fields _).mpr ⟨updateFields_reserved upd w, ?_, ?_⟩ <;> rw [decodeFields_updateFields]
  · exact hkeep.trans hnoop
  · exact hkeep'.trans hstart

theorem heldWord_stagedWord {m : SensorMode} {c : BitVec 3} {s : State} (h : heldWord s.cfg) :
    heldWord (stagedWord m c s) :=
  heldWord_updateFields (fun _ => ⟨rfl, rfl⟩) h

/-- The staged word carries the requested mode (R172). -/
theorem stagedWord_sensor (m : SensorMode) (c : BitVec 3) (s : State) :
    (decodeFields (stagedWord m c s)).2.sensor = m.code := by
  rw [stagedWord, decodeFields_updateFields]
  rfl

/-- The staged word carries the channel to be read, in ADC mode (R172). -/
theorem stagedWord_mux (m : SensorMode) (c : BitVec 3) (s : State) :
    (decodeFields (stagedWord m c s)).2.mux = stagedMux m c s := by
  rw [stagedWord, decodeFields_updateFields]
  rfl

/-- Where no change is needed, mode and channel are the ones held (R171). -/
theorem settled_of_no_discard {m : SensorMode} {c : BitVec 3} {s : State} (h : needDiscard m c s = false) :
    s.lastMode = m.asLast ∧ (m = .adc → s.cfgMux = c) := by
  have hno : ¬ (s.lastMode ≠ m.asLast ∨ (m = .adc ∧ s.cfgMux ≠ c)) := of_decide_eq_false h
  rw [not_or, not_and, not_not] at hno
  exact ⟨hno.1, fun hm => not_not.mp (hno.2 hm)⟩

/-! ## What the invariant asks, by the sequencer state -/

/-- What it asks of `cfg` and `lastMode`, whatever the sequencer does (R22, R24, R25). -/
def CfgGood (s : State) : Prop :=
  heldWord s.cfg ∧ (s.lastMode = .adc → s.cfgSensor = 0) ∧ (s.lastMode = .temperature → s.cfgSensor = 1)

/-- A status other than OK comes with an empty response (R222). -/
def ErrorEmpty (s : State) : Prop := s.rspStatus ≠ .ok → s.rspRaw = 0 ∧ s.rspValue = 0

/-- The requested mode and channel are the ones held (R172, R174). -/
def Settled (s : State) : Prop := s.lastMode = s.reqMode.asLast ∧ (s.reqMode = .adc → s.cfgMux = s.reqChan)

/-- What it asks of a frame from its begin to its end: its opcode, the word transmitted, and the final frame settled. -/
def FrameGood (s : State) : Prop :=
  (s.phase ≠ .nowait → isBlockingOp s.curOp = true) ∧ (s.phase = .nowait → isNonBlockingOp s.curOp = true) ∧
    (s.phase ≠ .discard → s.txWord = s.cfg) ∧ (s.phase = .discard → s.txWord = stagedWord s.reqMode s.reqChan s) ∧
    (s.phase = .final → Settled s)

theorem cfgGood_of_inv {s : State} (h : s.Inv) : CfgGood s := ⟨h.cfg_held, h.last_adc, h.last_temperature⟩

theorem frameGood_of_inv {s : State} (h : s.Inv) (hin : s.inFrame = true) : FrameGood s :=
  ⟨h.frame_blocking hin, h.frame_nowait hin, h.frame_word hin, h.discard_word hin, fun hp => h.settled (.inr ⟨hin, hp⟩)⟩

theorem rspValid_of_not_idle {s : State} (h : s.Inv) (hseq : s.seq ≠ .idle) : s.rspValid = false :=
  Bool.eq_false_iff.mpr fun hv => hseq (h.valid_idle hv)

/-- Outside TX_XFER and TX_END the chip-select of a good state is released (R33). -/
theorem csN_of_not_open {s : State} (h : s.Inv) (hx : s.seq ≠ .txXfer) (he : s.seq ≠ .txEnd) : s.csN = true :=
  (Bool.not_eq_false _).mp fun hcs => (h.chip_select.mp hcs).elim hx he

/-- In TX_XFER and TX_END it is asserted (R33). -/
theorem csN_of_open {s : State} (h : s.Inv) (hseq : s.seq = .txXfer ∨ s.seq = .txEnd) : s.csN = false :=
  h.chip_select.mpr hseq

/-- The clauses of the invariant from its parts. -/
theorem inv_of_parts {s : State} (hcfg : CfgGood s) (herr : ErrorEmpty s)
    (hcs : s.csN = false ↔ (s.seq = .txXfer ∨ s.seq = .txEnd)) (hvalid : s.rspValid = true → s.seq = .idle)
    (hwait : s.seq = .wait → isBlockingOp s.curOp = true ∧ Settled s) (hframe : s.inFrame = true → FrameGood s)
    (hclean : s.seq = .txXfer → s.txFail = false) (hend : s.seq = .txEnd → s.txFail = false → s.byteIdx = 3) :
    s.Inv where
  cfg_held := let ⟨hheld, _, _⟩ := hcfg; hheld
  last_adc := let ⟨_, hadc, _⟩ := hcfg; hadc
  last_temperature := let ⟨_, _, htemp⟩ := hcfg; htemp
  chip_select := hcs
  valid_idle := hvalid
  error_empty := herr
  wait_blocking hseq := (hwait hseq).1
  frame_blocking hin := let ⟨hblocking, _⟩ := hframe hin; hblocking
  frame_nowait hin := let ⟨_, hnowait, _⟩ := hframe hin; hnowait
  frame_word hin := let ⟨_, _, hword, _⟩ := hframe hin; hword
  discard_word hin := let ⟨_, _, _, hstaged, _⟩ := hframe hin; hstaged
  settled
    | .inl hseq => (hwait hseq).2
    | .inr ⟨hin, hphase⟩ => let ⟨_, _, _, _, hfinal⟩ := hframe hin; hfinal hphase
  xfer_clean := hclean
  end_complete := hend

theorem inv_of_idle {s : State} (hseq : s.seq = .idle) (hcs : s.csN = true) (hcfg : CfgGood s) (herr : ErrorEmpty s) :
    s.Inv :=
  inv_of_parts hcfg herr (by simp [hseq, hcs]) (fun _ => hseq) (by simp [hseq]) (by simp [State.inFrame, hseq])
    (by simp [hseq]) (by simp [hseq])

theorem inv_of_wait {s : State} (hseq : s.seq = .wait) (hcs : s.csN = true) (hvalid : s.rspValid = false)
    (hcfg : CfgGood s) (herr : ErrorEmpty s) (hop : isBlockingOp s.curOp = true) (hsettled : Settled s) : s.Inv :=
  inv_of_parts hcfg herr (by simp [hseq, hcs]) (by simp [hvalid]) (fun _ => ⟨hop, hsettled⟩)
    (by simp [State.inFrame, hseq]) (by simp [hseq]) (by simp [hseq])

theorem inv_of_txBegin {s : State} (hseq : s.seq = .txBegin) (hcs : s.csN = true) (hvalid : s.rspValid = false)
    (hcfg : CfgGood s) (herr : ErrorEmpty s) (hframe : FrameGood s) : s.Inv :=
  inv_of_parts hcfg herr (by simp [hseq, hcs]) (by simp [hvalid]) (by simp [hseq]) (fun _ => hframe) (by simp [hseq])
    (by simp [hseq])

theorem inv_of_txXfer {s : State} (hseq : s.seq = .txXfer) (hcs : s.csN = false) (hvalid : s.rspValid = false)
    (hcfg : CfgGood s) (herr : ErrorEmpty s) (hframe : FrameGood s) (hclean : s.txFail = false) : s.Inv :=
  inv_of_parts hcfg herr (by simp [hseq, hcs]) (by simp [hvalid]) (by simp [hseq]) (fun _ => hframe) (fun _ => hclean)
    (by simp [hseq])

theorem inv_of_txEnd {s : State} (hseq : s.seq = .txEnd) (hcs : s.csN = false) (hvalid : s.rspValid = false)
    (hcfg : CfgGood s) (herr : ErrorEmpty s) (hframe : FrameGood s) (hend : s.txFail = false → s.byteIdx = 3) : s.Inv :=
  inv_of_parts hcfg herr (by simp [hseq, hcs]) (by simp [hvalid]) (by simp [hseq]) (fun _ => hframe) (by simp [hseq])
    (fun _ => hend)

/-- The environment's own fields are no part of the invariant. -/
theorem inv_advance {s : State} (h : s.Inv) : (advance s).Inv := by
  have hcfg := cfgGood_of_inv h
  have hframe : s.inFrame = true → FrameGood s := frameGood_of_inv h
  exact inv_of_parts hcfg h.error_empty h.chip_select h.valid_idle
    (fun hseq => ⟨h.wait_blocking hseq, h.settled (.inl hseq)⟩) hframe h.xfer_clean h.end_complete

/-! ## The reset state -/

theorem cfgGood_of_default {s : State} (hcfg : s.cfg = 0xB0F1) (hlast : s.lastMode = .uninitialized) : CfgGood s :=
  ⟨hcfg ▸ heldWord_default, by simp [hlast], by simp [hlast]⟩

theorem inv_resetStep (s : State) : (resetStep s).Inv :=
  inv_of_idle rfl rfl (cfgGood_of_default rfl rfl) fun herr => absurd rfl herr

/-- Settles O47: after reset the block is in IDLE with the default word, no mode and no event. -/
theorem resetStateIsGood : Obligations.ResetStateIsGood :=
  ⟨inv_of_idle rfl rfl (cfgGood_of_default rfl rfl) fun herr => absurd rfl herr, rfl⟩

/-! ## Every step -/

/-- `cfg` as a setter leaves it is good where it was good before. -/
theorem cfgGood_updateFields {upd : Fields → Fields} {s t : State} (h : CfgGood s) (hupd : KeepsUnset upd)
    (hcfg : t.cfg = updateFields upd s.cfg) (hlast : t.lastMode = s.lastMode) : CfgGood t := by
  obtain ⟨hheld, hadc, htemp⟩ := h
  have hsensor : t.cfgSensor = s.cfgSensor := by
    rw [State.cfgSensor, hcfg, decodeFields_updateFields]
    exact (hupd _).2.1
  refine ⟨hcfg ▸ heldWord_updateFields (fun f => let ⟨hnoop, _, hstart⟩ := hupd f; ⟨hnoop, hstart⟩) hheld, ?_, ?_⟩ <;> rw [hlast, hsensor]
  · exact hadc
  · exact htemp

theorem AcceptEffect.inv {i : Instr} {s t : State} (h : AcceptEffect i s t) (hinv : s.Inv) (hseq : s.seq = .idle) :
    t.Inv := by
  have hcs := csN_of_not_open hinv (by simp [hseq]) (by simp [hseq])
  have hcfg := cfgGood_of_inv hinv
  cases h with
  | error => exact inv_of_idle hseq hcs hcfg fun _ => ⟨rfl, rfl⟩
  | result => exact inv_of_idle hseq hcs hcfg fun herr => absurd rfl herr
  | set _ hupd => exact inv_of_idle hseq hcs (cfgGood_updateFields hcfg hupd rfl rfl) fun herr => absurd rfl herr
  | init => exact inv_of_idle hseq hcs (cfgGood_of_default rfl rfl) fun herr => absurd rfl herr
  | discard hop =>
    exact inv_of_txBegin rfl hcs rfl hcfg hinv.error_empty
      ⟨fun _ => hop, nofun, fun hphase => absurd rfl hphase, fun _ => rfl, nofun⟩
  | wait hop hneed => exact inv_of_wait rfl hcs rfl hcfg hinv.error_empty hop (settled_of_no_discard hneed)
  | nowait hop =>
    exact inv_of_txBegin rfl hcs rfl hcfg hinv.error_empty
      ⟨fun hphase => absurd rfl hphase, fun _ => hop, fun _ => rfl, nofun, nofun⟩

/-- `cfg.sensor` and `lastMode` agree once both are those of the requested mode (R25). -/
theorem cfgGood_of_mode {s : State} (m : SensorMode) (hheld : heldWord s.cfg) (hlast : s.lastMode = m.asLast)
    (hsensor : s.cfgSensor = m.code) : CfgGood s := by
  refine ⟨hheld, ?_, ?_⟩ <;> rw [hlast, hsensor] <;> cases m <;> decide

theorem stagedMux_of_adc {m : SensorMode} (c : BitVec 3) (s : State) (h : m = .adc) : stagedMux m c s = c := by
  subst h
  rfl

/-- The commit makes the staged word the one held, so it settles the requested mode and channel (R174). -/
theorem inv_commit {s : State} (hinv : s.Inv) (hseq : s.seq = .txEnd) (hphase : s.phase = .discard) :
    (commit (closeFrame s)).Inv := by
  have hvalid : s.rspValid = false := rspValid_of_not_idle hinv (by simp [hseq])
  obtain ⟨hop, -, -, hword, -⟩ := frameGood_of_inv hinv (by simp [State.inFrame, hseq])
  replace hword := hword hphase
  have hheld : heldWord s.txWord := hword ▸ heldWord_stagedWord hinv.cfg_held
  have hsensor : (decodeFields s.txWord).2.sensor = s.reqMode.code := hword ▸ stagedWord_sensor _ _ s
  have hmux : (decodeFields s.txWord).2.mux = stagedMux s.reqMode s.reqChan s := hword ▸ stagedWord_mux _ _ s
  exact inv_of_wait rfl rfl hvalid (cfgGood_of_mode s.reqMode hheld rfl hsensor) hinv.error_empty (hop (by simp [hphase]))
    ⟨rfl, fun hadc => hmux.trans (stagedMux_of_adc _ s hadc)⟩

theorem SeqEffect.inv {s t : State} (h : SeqEffect s t) (hinv : s.Inv) : t.Inv := by
  have hcfg := cfgGood_of_inv hinv
  have hclosed : s.seq ≠ .txXfer → s.seq ≠ .txEnd → s.csN = true := csN_of_not_open hinv
  have hopen : s.seq = .txXfer ∨ s.seq = .txEnd → s.csN = false := csN_of_open hinv
  have hvalid : s.seq ≠ .idle → s.rspValid = false := rspValid_of_not_idle hinv
  have hframe : s.inFrame = true → FrameGood s := frameGood_of_inv hinv
  cases h with
  | hold => exact hinv
  | illegal hseq => exact inv_of_idle hseq (hclosed (by simp [hseq]) (by simp [hseq])) hcfg fun _ => ⟨rfl, rfl⟩
  | accept hseq _ _ hacc => exact hacc.inv hinv hseq
  | frameBegin hseq =>
    exact inv_of_txXfer rfl rfl (hvalid (by simp [hseq])) hcfg hinv.error_empty
      (hframe (by simp [State.inFrame, hseq])) rfl
  | @transfer b hseq =>
    replace hvalid := hvalid (by simp [hseq])
    replace hframe := hframe (by simp [State.inFrame, hseq])
    replace hopen := hopen (.inl hseq)
    obtain ⟨k, -, e⟩ | ⟨hlast, e⟩ := xferByte_cases b s <;> rw [e]
    · exact inv_of_txXfer hseq hopen hvalid hcfg hinv.error_empty hframe (hinv.xfer_clean hseq)
    · exact inv_of_txEnd rfl hopen hvalid hcfg hinv.error_empty hframe fun _ => hlast
  | transferFail hseq =>
    exact inv_of_txEnd rfl (hopen (.inl hseq)) (hvalid (by simp [hseq])) hcfg hinv.error_empty
      (hframe (by simp [State.inFrame, hseq])) nofun
  | frameFail => exact inv_of_idle rfl rfl hcfg fun _ => ⟨rfl, rfl⟩
  | commit hseq _ hphase => exact inv_commit hinv hseq hphase
  | deliver => exact inv_of_idle rfl rfl hcfg fun herr => absurd rfl herr
  | expire hseq =>
    exact inv_of_txBegin rfl (hclosed (by simp [hseq]) (by simp [hseq])) (hvalid (by simp [hseq])) hcfg hinv.error_empty
      ⟨fun _ => hinv.wait_blocking hseq, nofun, fun _ => rfl, nofun, fun _ => hinv.settled (.inl hseq)⟩

/-- Settles O48: the reset step gives the reset registers, and every way of a step without reset keeps the invariant. -/
theorem everyStepKeepsTheInvariant : Obligations.EveryStepKeepsTheInvariant := by
  intro s t hinv hstep
  obtain ⟨-, rfl⟩ | ⟨-, u, rfl, heff⟩ := step_cases hstep
  · exact inv_advance (inv_resetStep s)
  · exact inv_advance (heff.inv hinv)

end Sys2Proof.Proofs
end

/-! # The event history as a sequence of frames (spec/42_bus_transaction.md R147, R148) -/

section
namespace Sys2Proof.Proofs

open Sys2Proof.Machine

/-- The reader of a history goes on from where it stands. -/
theorem scanEvents_append (bus : BusCfg) (es new : List Event) :
    scanEvents bus (es ++ new) = (scanEvents bus es).bind fun p => new.foldlM (BusScan.next bus) p :=
  List.foldlM_append

/-- A history stays framed where the new events lead the reader on to where the block then is. -/
theorem historyFramed_of_events {s t : State} (new : List Event) (h : s.HistoryFramed) (hbus : busCfg t = busCfg s)
    (hevents : t.events = s.events ++ new)
    (hscan : new.foldlM (BusScan.next (busCfg s)) (expectedScan s) = some (expectedScan t)) : t.HistoryFramed := by
  unfold State.HistoryFramed at h ⊢
  rw [hbus, hevents, scanEvents_append, h]
  exact hscan

/-- Nothing new happens and the reader stands where it stood. -/
theorem historyFramed_of_same {s t : State} (h : s.HistoryFramed) (hbus : busCfg t = busCfg s)
    (hevents : t.events = s.events) (hscan : expectedScan t = expectedScan s) : t.HistoryFramed :=
  historyFramed_of_events [] h hbus (by simp [hevents]) (by simp [hscan])

theorem expectedScan_closed {s : State} (h : s.seq = .idle ∨ s.seq = .txBegin ∨ s.seq = .wait) :
    expectedScan s = .closed := by
  obtain h | h | h := h <;> simp [expectedScan, h]

theorem expectedScan_txXfer {s : State} (h : s.seq = .txXfer) :
    expectedScan s = .opened ((frameBytes s.txWord).take s.byteIdx.val) := by
  simp [expectedScan, h]

theorem expectedScan_txEnd {s : State} (h : s.seq = .txEnd) :
    expectedScan s = .opened ((frameBytes s.txWord).take (s.byteIdx.val + 1)) := by
  simp [expectedScan, h]

/-- The byte of a transfer is the next one of the frame (R54, R142). -/
theorem take_frameBytes_succ (w : ConfigWord) (k : Fin 4) :
    (frameBytes w).take (k.val + 1) = (frameBytes w).take k.val ++ [outByte w k] := by
  fin_cases k <;> rfl

/-- An open transaction takes one more byte of its word. -/
theorem scan_transfer (bus : BusCfg) (w : ConfigWord) (k : Fin 4) :
    BusScan.next bus (.opened ((frameBytes w).take k.val)) (.busXfer (outByte w k)) =
      some (.opened ((frameBytes w).take (k.val + 1))) := by
  have hlen : ((frameBytes w).take k.val).length < 4 := by
    rw [List.length_take]
    omega
  rw [take_frameBytes_succ]
  exact if_pos hlen

/-- An open transaction with a byte or more is closed. -/
theorem scan_close (bus : BusCfg) (w : ConfigWord) (k : Fin 4) :
    [Event.busEnd, .csDeassert].foldlM (BusScan.next bus) (.opened ((frameBytes w).take (k.val + 1))) =
      some .closed := rfl

theorem AcceptEffect.historyFramed {i : Instr} {s t : State} (h : AcceptEffect i s t) (hframed : s.HistoryFramed)
    (hseq : s.seq = .idle) : t.HistoryFramed := by
  have hs := expectedScan_closed (.inl hseq)
  cases h with
  | error | result | set | init => exact historyFramed_of_same hframed rfl rfl rfl
  | discard | nowait => exact historyFramed_of_same hframed rfl rfl hs.symm
  | wait => exact historyFramed_of_events _ hframed rfl rfl (hs ▸ rfl)

theorem SeqEffect.historyFramed {s t : State} (h : SeqEffect s t) (hframed : s.HistoryFramed) : t.HistoryFramed := by
  cases h with
  | hold => exact hframed
  | illegal hseq => exact historyFramed_of_same hframed rfl rfl rfl
  | accept hseq _ _ hacc => exact hacc.historyFramed hframed hseq
  | frameBegin hseq =>
    refine historyFramed_of_events [.csAssert, .busBegin (busCfg s)] hframed rfl rfl ?_
    rw [expectedScan_closed (.inr (.inl hseq))]
    simp [BusScan.next, expectedScan]
  | @transfer b hseq =>
    refine historyFramed_of_events [.busXfer (outByte s.txWord s.byteIdx)] hframed ?_ ?_ ?_
    · obtain ⟨k, -, e⟩ | ⟨-, e⟩ := xferByte_cases b s <;> rw [e] <;> rfl
    · obtain ⟨k, -, e⟩ | ⟨-, e⟩ := xferByte_cases b s <;> rw [e] <;> rfl
    · rw [expectedScan_txXfer hseq, List.foldlM_cons, scan_transfer]
      obtain ⟨k, hk, e⟩ | ⟨-, e⟩ := xferByte_cases b s <;> rw [e]
      · rw [expectedScan_txXfer (s := { storeByte b s with byteIdx := k }) hseq, ← hk]
        rfl
      · rfl
  | transferFail hseq =>
    refine historyFramed_of_events [.busXfer (outByte s.txWord s.byteIdx)] hframed rfl rfl ?_
    rw [expectedScan_txXfer hseq, List.foldlM_cons, scan_transfer]
    rfl
  | frameFail hseq =>
    refine historyFramed_of_events [.busEnd, .csDeassert] hframed rfl rfl ?_
    rw [expectedScan_txEnd hseq, scan_close]
    rfl
  | commit hseq =>
    refine historyFramed_of_events ([.busEnd, .csDeassert] ++ [.timerStart (lat (decodeFields s.txWord).2.rate)])
      hframed rfl (by simp [closeFrame]) ?_
    rw [expectedScan_txEnd hseq, List.foldlM_append, scan_close]
    rfl
  | deliver hseq =>
    refine historyFramed_of_events [.busEnd, .csDeassert] hframed rfl rfl ?_
    rw [expectedScan_txEnd hseq, scan_close]
    rfl
  | expire hseq => exact historyFramed_of_same hframed rfl rfl (expectedScan_closed (.inr (.inr hseq))).symm

/-- Settles O49: the events of every way of a step without reset lead the reader of the history to where the block is. -/
theorem everyStepKeepsTheHistoryFramed : Obligations.EveryStepKeepsTheHistoryFramed := by
  intro s t hframed hq hstep
  obtain ⟨u, rfl, heff⟩ := seqEffect_of_step hq hstep
  exact heff.historyFramed hframed

end Sys2Proof.Proofs
end

/-! # Proofs about acceptance, the ports and reset (spec/45_device_interface.md section 1, spec/60_exceptions.md) -/

section
namespace Sys2Proof.Proofs

open Sys2Proof.Machine

/-! ## Every step (R7, R9, R255) -/

/-- Settles O14: with reset presented the step is the reset step, and without it one of the ways of `SeqEffect`. -/
theorem everyStepAnswersNext : Obligations.EveryStepAnswersNext := by
  intro s
  cases hr : s.ports.reset with
  | true => exact ⟨_, step_of_reset hr⟩
  | false =>
    obtain ⟨u, hstep, -⟩ := step_quiet_effect hr
    exact ⟨_, hstep⟩

/-- Settles O15: no part of a step but its last writes the environment's fields. -/
theorem everyStepUsesUpItsPorts : Obligations.EveryStepUsesUpItsPorts := by
  intro s t hstep
  obtain ⟨u, rfl, -, -, henv, htick⟩ := sameOutside_of_step hstep
  exact ⟨congrArg List.tail henv, congrArg (· + 1) htick⟩

/-- Settles O16: no part of a step writes the parameters. -/
theorem parametersNeverChange : Obligations.ParametersNeverChange := by
  intro s t hstep
  obtain ⟨u, rfl, hdrdy, hsclk, -⟩ := sameOutside_of_step hstep
  exact ⟨hdrdy, hsclk⟩

/-! ## The accept step (R220, R221) -/

theorem step_of_decode_ok {s : State} {w : CommandWord} {i : Instr} (hidle : s.seq = .idle) (hcmd : commands s.ports w)
    (hd : decode w = .ok i) : step s = advanceResult (exec i s) := by
  obtain ⟨hquiet, hvalid, hword⟩ := hcmd
  rw [step_of_quiet hquiet, seqStep_of_idle hidle, idleStep_ok (presented_of_valid hvalid hword) hd]

/-- A presented word is the one on the port of the coming step, with no reset beside it. -/
theorem commands_withFetchWord (s : State) (w : Nat) :
    commands (s.withFetchWord 32 w).ports (BitVec.ofNat 32 (w % 2 ^ 32)) := ⟨rfl, rfl, rfl⟩

theorem decode_of_decodeTableWord {w : Nat} {i : Instr} (h : decodeTableWord 32 w = some i) :
    decode (BitVec.ofNat 32 (w % 2 ^ 32)) = .ok i := by
  unfold decodeTableWord at h
  split at h
  case h_1 j hd => exact hd.trans (congrArg _ (Option.some.inj h))
  case h_2 => cases h

/-- Settles O9: the accept step of a legal word is `exec` of its command, and `withFetchWord` makes the next step one. -/
theorem stepRunsDecodedCommand : Obligations.StepRunsDecodedCommand := by
  refine ⟨fun s w i hidle hcmd hd => ?_, fun s w i hd => ?_⟩
  · rw [step_of_decode_ok hidle hcmd hd]
    cases exec i s <;> rfl
  · rw [step_of_decode_ok rfl (commands_withFetchWord s w) (decode_of_decodeTableWord hd)]
    cases exec i (s.withFetchWord 32 w) <;> rfl

/-- In IDLE with a command valid, a step without reset takes the command. -/
theorem SeqEffect.accepts {s t : State} (h : SeqEffect s t) (hseq : s.seq = .idle) (hvalid : s.ports.cmdValid = true) :
    t.hostPos = s.hostPos + 1 ∧ t.curOp = opAfterAccept s.ports.cmdWord s := by
  cases h with
  | hold h => simp [Holds, hseq, hvalid] at h
  | illegal _ _ hdec => exact ⟨rfl, (opAfterAccept_of_decode_error hdec s).symm⟩
  | accept _ _ hdec hacc =>
    obtain ⟨hpos, hop⟩ := hacc.accepted
    exact ⟨hpos, hop.trans (opAfterAccept_of_decode_ok hdec s).symm⟩
  | frameBegin h | transfer h | transferFail h | frameFail h | commit h | deliver h | expire h => simp [hseq] at h

/-- Any other step without reset takes none. -/
theorem SeqEffect.takes_no_command {s t : State} (h : SeqEffect s t)
    (hno : ¬ (s.seq = .idle ∧ s.ports.cmdValid = true)) : t.hostPos = s.hostPos ∧ t.curOp = s.curOp := by
  cases h with
  | illegal hseq hvalid | accept hseq hvalid => exact absurd ⟨hseq, hvalid⟩ hno
  | transfer => obtain ⟨k, -, e⟩ | ⟨-, e⟩ := xferByte_cases _ s <;> rw [e] <;> exact ⟨rfl, rfl⟩
  | _ => exact ⟨rfl, rfl⟩

/-- Settles O12: the two ways that take a command are those of IDLE with `cmd_valid`. -/
theorem acceptsExactlyWhenIdleAndValid : Obligations.AcceptsExactlyWhenIdleAndValid := by
  intro s hq
  obtain ⟨u, hstep, heff⟩ := step_quiet_effect hq
  exact ⟨fun ⟨hseq, hvalid⟩ => ⟨_, hstep, heff.accepts hseq hvalid⟩, fun hno => ⟨_, hstep, heff.takes_no_command hno⟩⟩

/-! ## Holds (R176, R220, R293) -/

theorem step_of_idle_none {s : State} (hq : quiet s.ports) (hseq : s.seq = .idle) (hvalid : s.ports.cmdValid = false) :
    step s = .next (advance s) := by
  rw [step_of_quiet hq, seqStep_of_idle hseq, idleStep_none (presented_none hvalid)]
  rfl

theorem step_of_seq_txXfer {s : State} (hq : quiet s.ports) (hseq : s.seq = .txXfer) :
    step s = .next (advance (txXfer s)) := by
  rw [step_of_quiet hq]
  simp [seqStep, hseq, advanceResult]

theorem step_of_seq_wait {s : State} (hq : quiet s.ports) (hseq : s.seq = .wait) :
    step s = .next (advance (waitStep s)) := by
  rw [step_of_quiet hq]
  simp [seqStep, hseq, advanceResult]

theorem step_of_holds {s : State} (hq : quiet s.ports) (h : Holds s) : step s = .next (advance s) := by
  obtain ⟨hseq, hvalid⟩ | ⟨hseq, hx⟩ | ⟨hseq, hexp⟩ := h
  · exact step_of_idle_none hq hseq hvalid
  · rw [step_of_seq_txXfer hq hseq, txXfer, hx]
  · rw [step_of_seq_wait hq hseq, waitStep, hexp]
    rfl

/-- Settles O13: each of the three steps is the step of a state that waits. -/
theorem blockHoldsWithoutItsInput : Obligations.BlockHoldsWithoutItsInput :=
  fun _ hq h => stepsTo_of_step (step_of_holds hq h) rfl

theorem step_of_expired {s : State} (hq : quiet s.ports) (hseq : s.seq = .wait) (hexp : s.ports.timerExpired = true) :
    step s = .next (advance { s with txWord := s.cfg, phase := .final, seq := .txBegin }) := by
  rw [step_of_seq_wait hq hseq, waitStep, hexp]
  rfl

/-- Settles O41: WAIT reads the timer alone. -/
theorem waitEndsAtTheExpiry : Obligations.WaitEndsAtTheExpiry :=
  fun _ hq hseq => ⟨fun hexp => stepsTo_of_step (step_of_expired hq hseq hexp) rfl,
    fun hexp => stepsTo_of_step (step_of_holds hq (.inr (.inr ⟨hseq, hexp⟩))) rfl⟩

/-! ## The response (R223, R252) -/

/-- Settles O55: a valid response means IDLE, where a step without a command holds. -/
theorem responseHeldUntilTheNextAccept : Obligations.ResponseHeldUntilTheNextAccept := by
  intro s t hinv hvalid hq hnone hstep
  have hseq := hinv.valid_idle hvalid
  obtain rfl := Host.Outcome.next.inj (hstep.symm.trans (step_of_idle_none hq hseq hnone))
  exact ⟨hseq, hvalid, rfl, rfl, rfl⟩

/-- An accept step that answers an error is one of the two ways that write the response and `curOp` alone. -/
theorem AcceptEffect.precise {i : Instr} {s t : State} (h : AcceptEffect i s t) (hseq : t.seq = .idle)
    (hstatus : t.rspStatus ≠ .ok) : t = answered (curOpAfter i s) t.rspStatus 0 0 s := by
  cases h with
  | error => rfl
  | result | set | init => exact absurd rfl hstatus
  | discard | wait | nowait => cases hseq

/-- Settles O54: only the `error` way of a legal word and the illegal word answer an error and stay in IDLE. -/
theorem acceptStepErrorsArePrecise : Obligations.AcceptStepErrorsArePrecise := by
  intro s t hidle hq hvalid hstep hseq hstatus
  obtain ⟨u, rfl, heff⟩ := seqEffect_of_step hq hstep
  cases heff with
  | hold h => simp [Holds, hidle, hvalid] at h
  | illegal _ _ hdec =>
    rw [opAfterAccept_of_decode_error hdec]
    rfl
  | accept _ _ hdec hacc =>
    rw [opAfterAccept_of_decode_ok hdec, advance_rspStatus]
    exact congrArg (fun x => (advance x).block) (hacc.precise hseq hstatus)
  | frameBegin h | transfer h | transferFail h | frameFail h | commit h | deliver h | expire h => simp [hidle] at h

/-! ## Reset (R282) -/

/-- A run takes its first step and goes on from there, on any machine. -/
theorem coreRun_succ (M : Host.Core) {s t : M.State} (h : M.step s = .next t) (n : Nat) :
    M.run (n + 1) s = M.run n t := by
  rw [Host.Core.run, h]

theorem run_succ_of_step {s t : State} (h : step s = .next t) (n : Nat) :
    Host.Core.run core (n + 1) s = Host.Core.run core n t :=
  coreRun_succ core h n

/-- Two runs, one after the other. -/
theorem run_add {s t : State} {m : Nat} (h : Host.Core.run core m s = .next t) (n : Nat) :
    Host.Core.run core (m + n) s = Host.Core.run core n t := by
  induction m generalizing s with
  | zero =>
    obtain rfl := Host.Outcome.next.inj h
    rw [Nat.zero_add]
  | succ m ih =>
    obtain ⟨u, hstep⟩ := everyStepAnswersNext s
    rw [run_succ_of_step hstep] at h
    rw [Nat.succ_add, run_succ_of_step hstep, ih h]

/-- Settles O11: the reset step leaves IDLE without a response, where the quiet step holds whatever the timer does. -/
theorem resetCutsTheSequence : Obligations.ResetCutsTheSequence := by
  intro s p q rest henv hreset hq hnone
  have hports : s.ports = p := ports_of_env henv
  have henv' : (advance (resetStep s)).env = q :: rest := by simp [henv]
  have hports' : (advance (resetStep s)).ports = q := ports_of_env henv'
  have hrest : s.env.tail.tail = rest := by simp [henv]
  refine ⟨advance (advance (resetStep s)), ?_, rfl, rfl, rfl, rfl, rfl, rfl, hrest⟩
  rw [run_succ_of_step (step_of_reset (hports ▸ hreset)), run_succ_of_step (step_of_idle_none (hports'.symm ▸ hq) rfl
    (hports'.symm ▸ hnone))]
  rfl

/-! ## The output ports (R23, R35, R250) -/

theorem lastMode_code_injective : Function.Injective LastMode.code := by
  intro a b
  cases a <;> cases b <;> decide

theorem status_code_injective : Function.Injective Status.code := by
  intro a b
  cases a <;> cases b <;> decide

/-- Settles O60: the two codes are read off their tables, which give different codes to different values. -/
theorem outputPortsShowTheState : Obligations.OutputPortsShowTheState := by
  intro s
  refine ⟨decide_eq_true_iff, rfl, lastMode_code_injective.eq_iff' rfl, lastMode_code_injective.eq_iff' rfl,
    lastMode_code_injective.eq_iff' rfl, ?_, status_code_injective.eq_iff' rfl, status_code_injective.eq_iff' rfl,
    status_code_injective.eq_iff' rfl, status_code_injective.eq_iff' rfl, status_code_injective.eq_iff' rfl, ?_⟩
  · unfold State.lastModeQ
    cases s.lastMode <;> decide
  · unfold State.statusBits
    cases s.rspStatus <;> decide

end Sys2Proof.Proofs
end

/-! # Rules over every step (spec/10_state.md, spec/42_bus_transaction.md, spec/43_conversion_fsm.md) -/

section
namespace Sys2Proof.Proofs

open Sys2Proof.Machine

/-! ## The writers of `lastMode` and `cfg` (R23, R110, R174) -/

/-- The word of INIT is the only one that decodes to it. -/
theorem commands_init_of_decode {s : State} (hq : quiet s.ports) (hvalid : s.ports.cmdValid = true)
    (hdec : decode s.ports.cmdWord = .ok .init) : commands s.ports 0x10000000 := by
  obtain ⟨-, henc⟩ := wordOf_of_decode_ok hdec
  exact ⟨hq, hvalid, henc.symm⟩

/-- `lastMode` after an accepted command is the old one, unless the command is INIT. -/
theorem AcceptEffect.lastMode {i : Instr} {s t : State} (h : AcceptEffect i s t) :
    t.lastMode = s.lastMode ∨ (i = .init ∧ t.lastMode = .uninitialized) := by
  cases h with
  | init hi => exact .inr ⟨hi, rfl⟩
  | _ => exact .inl rfl

/-- Settles O50: of the ways of a step only INIT, the commit and reset write `lastMode`. -/
theorem lastModeHasNoOtherWriter : Obligations.LastModeHasNoOtherWriter := by
  intro s t hstep hne
  obtain ⟨hr, -⟩ | ⟨hq, u, rfl, heff⟩ := step_cases hstep
  · exact .inl hr
  refine .inr ?_
  cases heff with
  | accept hseq hvalid hdec hacc =>
    obtain hsame | ⟨rfl, hlast⟩ := hacc.lastMode
    · exact absurd hsame hne
    · exact .inl ⟨hseq, commands_init_of_decode hq hvalid hdec, hlast⟩
  | commit hseq hok hphase => exact .inr ⟨hseq, hphase, hok, rfl, rfl⟩
  | transfer => exact absurd (xferByte_lastMode _ s) hne
  | _ => exact absurd rfl hne

/-- Two held words agree in `noop` and `start`. -/
theorem noop_start_eq_of_held {v w : ConfigWord} (hv : heldWord v) (hw : heldWord w) :
    v.extractLsb' 13 2 = w.extractLsb' 13 2 ∧ v.getLsbD 0 = w.getLsbD 0 := by
  obtain ⟨-, hnoop, hstart⟩ := hv
  obtain ⟨-, hnoop', hstart'⟩ := hw
  exact ⟨hnoop.trans hnoop'.symm, hstart.trans hstart'.symm⟩

theorem getLsbD_sensor_updateFields {upd : Fields → Fields} (hupd : KeepsUnset upd) (w : ConfigWord) :
    (updateFields upd w).getLsbD 11 = w.getLsbD 11 := by
  have hsensor : (updateFields upd w).extractLsb' 11 1 = w.extractLsb' 11 1 := by
    have h : (decodeFields (updateFields upd w)).2.sensor = (decodeFields w).2.sensor := by
      rw [decodeFields_updateFields]
      exact (hupd _).2.1
    exact h
  have hiff : (updateFields upd w).getLsbD 11 = true ↔ w.getLsbD 11 = true := by
    rw [← extractLsb'_one_eq_one_iff, ← extractLsb'_one_eq_one_iff, hsensor]
  exact Bool.eq_iff_iff.mpr hiff

/-- `cfg.sensor` after an accepted command is the old one, unless the command is INIT. -/
theorem AcceptEffect.sensor {i : Instr} {s t : State} (h : AcceptEffect i s t) :
    t.cfg.getLsbD 11 = s.cfg.getLsbD 11 ∨ i = .init := by
  cases h with
  | init hi => exact .inr hi
  | set _ hupd => exact .inl (getLsbD_sensor_updateFields hupd s.cfg)
  | _ => exact .inl rfl

/-- Settles O51: `cfg` is a held word before and after, and only INIT, the commit and reset write `sensor`. -/
theorem sensorNoopStartHaveNoSetter : Obligations.SensorNoopStartHaveNoSetter := by
  intro s t hinv hstep
  have hinv' := everyStepKeepsTheInvariant s t hinv hstep
  obtain ⟨hnoop, hstart⟩ := noop_start_eq_of_held hinv'.cfg_held hinv.cfg_held
  refine ⟨hnoop, hstart, fun hne => ?_⟩
  obtain ⟨hr, -⟩ | ⟨hq, u, rfl, heff⟩ := step_cases hstep
  · exact .inl hr
  refine .inr ?_
  cases heff with
  | accept hseq hvalid hdec hacc =>
    obtain hsame | rfl := hacc.sensor
    · exact absurd hsame hne
    · exact .inl ⟨hseq, commands_init_of_decode hq hvalid hdec⟩
  | commit hseq hok hphase => exact .inr ⟨hseq, hphase, hok⟩
  | transfer => exact absurd (congrArg (fun w : ConfigWord => w.getLsbD 11) (xferByte_cfg _ s)) hne
  | _ => exact absurd rfl hne

/-! ## Where a frame begins (R147) -/

/-- The begin of a frame is reached from IDLE or WAIT alone. -/
theorem SeqEffect.seq_of_begins {s t : State} (h : SeqEffect s t) (hseq : t.seq = .txBegin) :
    s.seq = .idle ∨ s.seq = .wait := by
  cases h with
  | hold h =>
    obtain ⟨h, -⟩ | ⟨h, -⟩ | ⟨h, -⟩ := h
    · exact .inl h
    · simp [hseq] at h
    · exact .inr h
  | illegal h | accept h => exact .inl h
  | expire h => exact .inr h
  | frameBegin h | transferFail h | frameFail h | commit h | deliver h => cases hseq
  | @transfer b h =>
    obtain ⟨k, -, e⟩ | ⟨-, e⟩ := xferByte_cases b s <;> rw [e] at hseq
    · exact absurd (h.symm.trans hseq) (by decide)
    · cases hseq

/-- Settles O52: a good state in IDLE, WAIT or TX_BEGIN has the chip-select released. -/
theorem framesBeginOnlyFromIdleOrWait : Obligations.FramesBeginOnlyFromIdleOrWait := by
  intro s t hinv hstep hseq
  have hinv' := everyStepKeepsTheInvariant s t hinv hstep
  have hcs' := csN_of_not_open hinv' (by simp [hseq]) (by simp [hseq])
  obtain ⟨-, rfl⟩ | ⟨-, u, rfl, heff⟩ := step_cases hstep
  · cases hseq
  have hfrom := heff.seq_of_begins hseq
  refine ⟨hfrom, csN_of_not_open hinv ?_ ?_, hcs'⟩ <;> obtain h | h := hfrom <;> simp [h]

/-! ## Pending and Ready (R170) -/

theorem isPending_iff (s : State) :
    s.isPending = true ↔ s.seq = .wait ∨ (s.inFrame = true ∧ s.phase = .discard) := by
  simp [State.isPending]

theorem isReady_iff (s : State) : s.isReady = true ↔
    s.seq = .idle ∧ s.rspValid = true ∧ s.rspStatus = .ok ∧ isAcquisitionOp s.curOp = true := by
  simp [State.isReady, isAcquisitionOp, and_assoc]

/-- From Pending, in each of its sequencer states. -/
theorem SeqEffect.pending {s t : State} (h : SeqEffect s t) (hp : s.isPending = true) :
    t.isPending = true ∨ (t.seq = .txBegin ∧ t.phase = .final) ∨
      (t.seq = .idle ∧ t.rspValid = true ∧ t.rspStatus = .busError) := by
  obtain hwait | ⟨hin, hphase⟩ := (isPending_iff s).mp hp
  · cases h with
    | hold => exact .inl hp
    | expire => exact .inr (.inl ⟨rfl, rfl⟩)
    | illegal h | accept h | frameBegin h | transfer h | transferFail h | frameFail h | commit h | deliver h =>
      simp [hwait] at h
  · cases h with
    | hold => exact .inl hp
    | frameBegin => exact .inl ((isPending_iff _).mpr (.inr ⟨rfl, hphase⟩))
    | @transfer b hseq =>
      refine .inl ((isPending_iff _).mpr (.inr ?_))
      obtain ⟨k, -, e⟩ | ⟨-, e⟩ := xferByte_cases b s <;> rw [e]
      · exact ⟨hin, hphase⟩
      · exact ⟨rfl, hphase⟩
    | transferFail => exact .inl ((isPending_iff _).mpr (.inr ⟨rfl, hphase⟩))
    | frameFail => exact .inr (.inr ⟨rfl, rfl, rfl⟩)
    | commit => exact .inl ((isPending_iff _).mpr (.inl rfl))
    | deliver _ _ hterm => exact absurd hphase hterm
    | illegal h | accept h | expire h => simp [State.inFrame, h] at hin

/-- A command that is answered OK in its accept step is no acquisition. -/
theorem AcceptEffect.not_ready {i : Instr} {s t : State} (h : AcceptEffect i s t) : t.isReady ≠ true := by
  rw [ne_eq, isReady_iff]
  rintro ⟨hseq, -, hok, hop⟩
  cases h with
  | error hstatus => exact hstatus hok
  | result hcomp | set hcomp => exact absurd (hcomp.symm.trans hop) (by decide)
  | init hi =>
    subst hi
    have hinit : isAcquisitionOp 0x1 = true := hop
    exact absurd hinit (by decide)
  | discard | wait | nowait => cases hseq

/-- A result becomes Ready by the delivery of a terminal frame alone. -/
theorem SeqEffect.ready {s t : State} (h : SeqEffect s t) (hr : t.isReady = true) :
    s.isReady = true ∨ (s.seq = .txEnd ∧ s.phase ≠ .discard ∧ s.txFail = false) := by
  cases h with
  | hold => exact .inl hr
  | deliver hseq hok hphase => exact .inr ⟨hseq, hphase, hok⟩
  | accept _ _ _ hacc => exact absurd hr hacc.not_ready
  | @transfer b hseq =>
    obtain ⟨hidle, -⟩ := (isReady_iff _).mp hr
    obtain ⟨k, -, e⟩ | ⟨-, e⟩ := xferByte_cases b s <;> rw [e] at hidle
    · exact absurd (hseq.symm.trans hidle) (by decide)
    · cases hidle
  | illegal | frameFail =>
    obtain ⟨-, -, hok, -⟩ := (isReady_iff _).mp hr
    cases hok
  | frameBegin | transferFail | commit | expire =>
    obtain ⟨hidle, -⟩ := (isReady_iff _).mp hr
    cases hidle

/-- Settles O56: the two facts of each way of a step. -/
theorem trustedResultOnlyFromATerminalFrame : Obligations.TrustedResultOnlyFromATerminalFrame := by
  intro s t _ hq hstep
  obtain ⟨u, rfl, heff⟩ := seqEffect_of_step hq hstep
  exact ⟨heff.pending, heff.ready⟩

/-! ## Which ports a step reads (R149, R259) -/

/-- The state with other levels for the coming step. -/
def withPorts (s : State) (p : Ports) (rest : List Ports) : State := { s with env := p :: rest }

/-- Whatever is presented, the end of a step takes it away. -/
theorem advance_withPorts (s : State) (p q : Ports) (rest : List Ports) :
    advance (withPorts s p rest) = advance (withPorts s q rest) := rfl

theorem runSetter_withPorts {width max : Nat} (write : BitVec width → Fields → Fields) (a : Nat) (s : State) (p : Ports)
    (rest : List Ports) :
    runSetter width max write a (withPorts s p rest) = withPorts (runSetter width max write a s) p rest := by
  unfold runSetter
  cases checkedField width max a <;> rfl

theorem startBlocking_withPorts (m : SensorMode) (c : BitVec 3) (s : State) (p : Ports) (rest : List Ports) :
    startBlocking m c (withPorts s p rest) = withPorts (startBlocking m c s) p rest := by
  have hneed : needDiscard m c (withPorts s p rest) = needDiscard m c s := rfl
  unfold startBlocking
  rw [hneed]
  cases needDiscard m c s <;> rfl

theorem startChannelRead_withPorts (op : BitVec 4) (a : Nat) (s : State) (p : Ports) (rest : List Ports) :
    startChannelRead op a (withPorts s p rest) = withPorts (startChannelRead op a s) p rest := by
  unfold startChannelRead
  cases checkedField 3 7 a with
  | none => rfl
  | some c => exact startBlocking_withPorts .adc c (acceptOp op s) p rest

theorem respondLatency_withPorts (a : Nat) (s : State) (p : Ports) (rest : List Ports) :
    respondLatency a (withPorts s p rest) = withPorts (respondLatency a s) p rest := by
  unfold respondLatency
  cases checkedField 3 7 a <;> rfl

theorem respondMillivolts_withPorts (a : Nat) (d : Sample) (s : State) (p : Ports) (rest : List Ports) :
    respondMillivolts a d (withPorts s p rest) = withPorts (respondMillivolts a d s) p rest := by
  unfold respondMillivolts
  cases checkedField 3 7 a <;> rfl

/-- The accept step is the same for the two presentations, up to what was presented. -/
def SameExec (i : Instr) (s : State) (p q : Ports) (rest : List Ports) : Prop :=
  ∃ t, exec i (withPorts s p rest) = .next (withPorts t p rest) ∧ exec i (withPorts s q rest) = .next (withPorts t q rest)

/-- A meaning that commutes with the presentation is the same for any two. -/
theorem sameExec_of_commutes {i : Instr} {s t : State} {rest : List Ports}
    (h : ∀ p, exec i (withPorts s p rest) = .next (withPorts t p rest)) (p q : Ports) : SameExec i s p q rest :=
  ⟨t, h p, h q⟩

/-- A non-blocking command reads the data-ready line and nothing else of the ports (R178). -/
theorem sameExec_of_startNonBlocking {op : BitVec 4} {i : Instr} {p q : Ports} {rest : List Ports}
    (hexec : ∀ s, exec i s = .next (startNonBlocking (acceptOp op s))) (hdrdy : p.drdyN = q.drdyN) (s : State) :
    SameExec i s p q rest := by
  have hlevel : (acceptOp op (withPorts s q rest)).drdyLevel = (acceptOp op (withPorts s p rest)).drdyLevel := by
    change (if s.hasDrdy then q.drdyN else true) = if s.hasDrdy then p.drdyN else true
    rw [hdrdy]
  rw [SameExec, hexec, hexec]
  unfold startNonBlocking
  rw [hlevel]
  cases (acceptOp op (withPorts s p rest)).drdyLevel with
  | true => exact ⟨respondError .notReady (acceptOp op s), rfl, rfl⟩
  | false => exact ⟨{ acceptOp op s with txWord := s.cfg, phase := .nowait, seq := .txBegin }, rfl, rfl⟩

/-- The non-blocking commands read the data-ready line, and no other command reads a port. -/
theorem sameExec {i : Instr} {p q : Ports} (s : State) (rest : List Ports)
    (hdrdy : p.drdyN = q.drdyN ∨ (i ≠ .readAdcNw ∧ i ≠ .readMvNw)) : SameExec i s p q rest := by
  cases i with
  | init =>
    exact sameExec_of_commutes
      (t := answered 0x1 .ok 0xB0F1 0 { s with cfg := 0xB0F1, lastMode := .uninitialized }) (fun p => exec_init _) p q
  | setRate a =>
    exact sameExec_of_commutes (fun p => congrArg _ (runSetter_withPorts Fields.withRate a (acceptOp _ s) p rest)) p q
  | setGain a =>
    exact sameExec_of_commutes (fun p => congrArg _ (runSetter_withPorts Fields.withGain a (acceptOp _ s) p rest)) p q
  | setMux a =>
    exact sameExec_of_commutes (fun p => congrArg _ (runSetter_withPorts Fields.withMux a (acceptOp _ s) p rest)) p q
  | setOpmode a =>
    exact sameExec_of_commutes (fun p => congrArg _ (runSetter_withPorts Fields.withOpmode a (acceptOp _ s) p rest)) p q
  | setPullup a =>
    exact sameExec_of_commutes (fun p => congrArg _ (runSetter_withPorts Fields.withPullup a (acceptOp _ s) p rest)) p q
  | readAdc a =>
    exact sameExec_of_commutes (fun p => congrArg _ (startChannelRead_withPorts _ a s p rest)) p q
  | readMv a =>
    exact sameExec_of_commutes (fun p => congrArg _ (startChannelRead_withPorts _ a s p rest)) p q
  | readAdcNw =>
    exact sameExec_of_startNonBlocking exec_readAdcNw (hdrdy.resolve_right fun h => h.1 rfl) s
  | readMvNw =>
    exact sameExec_of_startNonBlocking exec_readMvNw (hdrdy.resolve_right fun h => h.2 rfl) s
  | readRaw =>
    exact sameExec_of_commutes
      (fun p => congrArg _ (startBlocking_withPorts (rawMode s) s.cfgMux (acceptOp Op.readRaw s) p rest)) p q
  | readTemp =>
    exact sameExec_of_commutes
      (fun p => congrArg _ (startBlocking_withPorts .temperature s.cfgMux (acceptOp Op.readTemp s) p rest)) p q
  | latency a =>
    exact sameExec_of_commutes (fun p => congrArg _ (respondLatency_withPorts a (acceptOp _ s) p rest)) p q
  | scaleMv a d =>
    exact sameExec_of_commutes (fun p => congrArg _ (respondMillivolts_withPorts a d (acceptOp _ s) p rest)) p q
  | scaleTemp d =>
    exact sameExec_of_commutes (t := answered 0xF .ok d (scaleTempQ3 d) s) (fun p => exec_scaleTemp d _) p q

/-- An accept step reads the word, and the data-ready line where the word is a non-blocking command. -/
theorem step_congr_of_valid {s : State} {p q : Ports} {rest : List Ports} (hseq : s.seq = .idle) (hp : quiet p)
    (hq : quiet q) (hvp : p.cmdValid = true) (hvq : q.cmdValid = true) (hword : p.cmdWord = q.cmdWord)
    (hdrdy : p.drdyN = q.drdyN ∨ (p.cmdWord ≠ 0x90000000 ∧ p.cmdWord ≠ 0xA0000000)) :
    step (withPorts s p rest) = step (withPorts s q rest) := by
  have hcp : commands (withPorts s p rest).ports p.cmdWord := ⟨hp, hvp, rfl⟩
  have hcq : commands (withPorts s q rest).ports p.cmdWord := ⟨hq, hvq, hword.symm⟩
  have hsp : (withPorts s p rest).seq = .idle := hseq
  have hsq : (withPorts s q rest).seq = .idle := hseq
  cases hdec : decode p.cmdWord with
  | error r =>
    rw [step_of_decode_error hsp hcp hdec, step_of_decode_error hsq hcq hdec]
    rfl
  | ok i =>
    obtain ⟨-, henc⟩ := wordOf_of_decode_ok hdec
    have hdrdy' : p.drdyN = q.drdyN ∨ (i ≠ .readAdcNw ∧ i ≠ .readMvNw) :=
      hdrdy.imp_right fun ⟨h9, hA⟩ => ⟨fun hi => h9 (henc ▸ hi ▸ rfl), fun hi => hA (henc ▸ hi ▸ rfl)⟩
    obtain ⟨t, hep, heq⟩ := sameExec s rest hdrdy'
    rw [step_of_decode_ok hsp hcp hdec, step_of_decode_ok hsq hcq hdec, hep, heq]
    exact congrArg Host.Outcome.next (advance_withPorts t p q rest)

theorem completeFrame_withPorts (s : State) (p : Ports) (rest : List Ports) :
    completeFrame (withPorts s p rest) = withPorts (completeFrame s) p rest := by
  obtain ⟨hfail, e⟩ | ⟨hok, hphase, e⟩ | ⟨hok, hphase, e⟩ := completeFrame_cases s <;> rw [e]
  · exact completeFrame_of_fail (s := withPorts s p rest) hfail
  · exact completeFrame_of_discard (s := withPorts s p rest) hok hphase
  · exact completeFrame_of_terminal (s := withPorts s p rest) hok hphase

theorem txEnd_withPorts (s : State) (p : Ports) (rest : List Ports) :
    txEnd (withPorts s p rest) = withPorts (txEnd s) p rest :=
  completeFrame_withPorts (closeFrame s) p rest

theorem xferByte_withPorts (b : Byte) (s : State) (p : Ports) (rest : List Ports) :
    xferByte b (withPorts s p rest) = withPorts (xferByte b s) p rest := by
  obtain ⟨k, hk, e⟩ | ⟨hlast, e⟩ := xferByte_cases b s <;> rw [e]
  · exact xferByte_of_lt (s := withPorts s p rest) hk
  · exact xferByte_of_last (s := withPorts s p rest) hlast

/-- A transfer reads the transport's answer. -/
theorem txXfer_congr {s : State} {p q : Ports} {rest : List Ports} (hx : p.xfer = q.xfer) :
    advance (txXfer (withPorts s p rest)) = advance (txXfer (withPorts s q rest)) := by
  have hp : (withPorts s p rest).ports.xfer = q.xfer := hx
  have hq : (withPorts s q rest).ports.xfer = q.xfer := rfl
  rw [txXfer, txXfer, hp, hq]
  cases q.xfer with
  | pending | fail => rfl
  | byte b =>
    change advance (xferByte b (withPorts s p rest)) = advance (xferByte b (withPorts s q rest))
    rw [xferByte_withPorts, xferByte_withPorts, advance_withPorts]

/-- A wait reads the timer. -/
theorem waitStep_congr {s : State} {p q : Ports} {rest : List Ports} (he : p.timerExpired = q.timerExpired) :
    advance (waitStep (withPorts s p rest)) = advance (waitStep (withPorts s q rest)) := by
  have hp : (withPorts s p rest).ports.timerExpired = q.timerExpired := he
  have hq : (withPorts s q rest).ports.timerExpired = q.timerExpired := rfl
  rw [waitStep, waitStep, hp, hq]
  cases q.timerExpired <;> rfl

/-- Settles O53: for each sequencer state, the micro-step reads the one input named, and its end takes the rest away. -/
theorem stepReadsOnlyThePortsOfItsState : Obligations.StepReadsOnlyThePortsOfItsState := by
  intro s p q rest hreset hread
  change step (withPorts s p rest) = step (withPorts s q rest)
  cases hp : p.reset with
  | true =>
    have hq : q.reset = true := hreset.symm.trans hp
    rw [step_of_reset (s := withPorts s p rest) hp, step_of_reset (s := withPorts s q rest) hq]
    rfl
  | false =>
    have hq : q.reset = false := hreset.symm.trans hp
    have hquiet : quiet (withPorts s p rest).ports := hp
    have hquiet' : quiet (withPorts s q rest).ports := hq
    obtain h | hseq | hseq | ⟨hseq, hx⟩ | ⟨hseq, he⟩ | ⟨hseq, hvp, hvq⟩ | ⟨hseq, hv, hword, hdrdy⟩ := hread
    · exact absurd (h.symm.trans hp) (by decide)
    · rw [step_of_seq_txBegin (s := withPorts s p rest) hquiet hseq,
        step_of_seq_txBegin (s := withPorts s q rest) hquiet' hseq]
      rfl
    · rw [step_of_seq_txEnd (s := withPorts s p rest) hquiet hseq,
        step_of_seq_txEnd (s := withPorts s q rest) hquiet' hseq, txEnd_withPorts, txEnd_withPorts, advance_withPorts]
    · rw [step_of_seq_txXfer (s := withPorts s p rest) hquiet hseq,
        step_of_seq_txXfer (s := withPorts s q rest) hquiet' hseq, txXfer_congr hx]
    · rw [step_of_seq_wait (s := withPorts s p rest) hquiet hseq,
        step_of_seq_wait (s := withPorts s q rest) hquiet' hseq, waitStep_congr he]
    · rw [step_of_idle_none (s := withPorts s p rest) hquiet hseq hvp,
        step_of_idle_none (s := withPorts s q rest) hquiet' hseq hvq]
      rfl
    · cases hvp : p.cmdValid with
      | false =>
        rw [step_of_idle_none (s := withPorts s p rest) hquiet hseq hvp,
          step_of_idle_none (s := withPorts s q rest) hquiet' hseq (hv.symm.trans hvp)]
        rfl
      | true => exact step_congr_of_valid hseq hp hq hvp (hv.symm.trans hvp) hword hdrdy

end Sys2Proof.Proofs
end

/-! # Proofs about transfers and whole frames (spec/42_bus_transaction.md) -/

section
namespace Sys2Proof.Proofs

open Sys2Proof.Machine

/-! ## The receive buffer (R30, R142) -/

/-- A byte put into the buffer replaces the eight bits of its place. -/
theorem getLsbD_putByte (buf : BitVec 32) (k : Fin 4) (b : Byte) {n : Nat} (hn : n < 32) :
    (putByte buf k b).getLsbD n =
      if 24 - 8 * k.val ≤ n ∧ n < 32 - 8 * k.val then b.getLsbD (n - (24 - 8 * k.val)) else buf.getLsbD n := by
  fin_cases k <;> interval_cases n <;> simp [putByte]

theorem byte_putByte (buf : BitVec 32) (k j : Fin 4) (b : Byte) :
    (putByte buf k b).extractLsb' (24 - 8 * j.val) 8 = if j = k then b else buf.extractLsb' (24 - 8 * j.val) 8 := by
  have hj := j.isLt
  have hk := k.isLt
  apply BitVec.eq_of_getLsbD_eq
  intro i hi
  rw [BitVec.getLsbD_extractLsb', getLsbD_putByte _ _ _ (by omega)]
  by_cases hjk : j = k
  · subst hjk
    rw [if_pos (by omega)]
    simp [hi]
  · have hne : j.val ≠ k.val := fun h => hjk (Fin.ext h)
    rw [if_neg (by omega)]
    simp [hi, hjk]

/-- The buffer after four answered transfers. -/
def frameBuf (b0 b1 b2 b3 : Byte) : BitVec 32 := putByte (putByte (putByte (putByte 0 0 b0) 1 b1) 2 b2) 3 b3

theorem toNat_eq_sum_bytes (w : BitVec 32) :
    w.toNat = (w.extractLsb' 24 8).toNat * 2 ^ 24 + (w.extractLsb' 16 8).toNat * 2 ^ 16 +
      (w.extractLsb' 8 8).toNat * 2 ^ 8 + (w.extractLsb' 0 8).toNat := by
  have hlt := w.isLt
  simp only [BitVec.extractLsb'_toNat, Nat.shiftRight_eq_div_pow]
  omega

/-- The buffer holds the bytes in the order in which they came. -/
theorem byte_frameBuf (b0 b1 b2 b3 : Byte) (j : Fin 4) :
    (frameBuf b0 b1 b2 b3).extractLsb' (24 - 8 * j.val) 8 = [b0, b1, b2, b3].getD j.val 0 := by
  rw [frameBuf, byte_putByte, byte_putByte, byte_putByte, byte_putByte]
  fin_cases j <;> rfl

theorem toNat_frameBuf (b0 b1 b2 b3 : Byte) : (frameBuf b0 b1 b2 b3).toNat =
    b0.toNat * 2 ^ 24 + b1.toNat * 2 ^ 16 + b2.toNat * 2 ^ 8 + b3.toNat := by
  have h0 : (frameBuf b0 b1 b2 b3).extractLsb' 24 8 = b0 := byte_frameBuf b0 b1 b2 b3 0
  have h1 : (frameBuf b0 b1 b2 b3).extractLsb' 16 8 = b1 := byte_frameBuf b0 b1 b2 b3 1
  have h2 : (frameBuf b0 b1 b2 b3).extractLsb' 8 8 = b2 := byte_frameBuf b0 b1 b2 b3 2
  have h3 : (frameBuf b0 b1 b2 b3).extractLsb' 0 8 = b3 := byte_frameBuf b0 b1 b2 b3 3
  rw [toNat_eq_sum_bytes, h0, h1, h2, h3]

/-- The sample is the first two bytes (R55). -/
theorem toNat_sample_frameBuf (b0 b1 b2 b3 : Byte) :
    ((frameBuf b0 b1 b2 b3).extractLsb' 16 16).toNat = b0.toNat * 2 ^ 8 + b1.toNat := by
  have hbuf := toNat_frameBuf b0 b1 b2 b3
  have h0 := b0.isLt
  have h1 := b1.isLt
  have h2 := b2.isLt
  have h3 := b3.isLt
  rw [BitVec.extractLsb'_toNat, Nat.shiftRight_eq_div_pow, hbuf]
  omega

/-! ## One transfer (R142, R143) -/

theorem step_of_byte {s : State} {b : Byte} (hans : answers s.ports b) (hseq : s.seq = .txXfer) :
    step s = .next (advance (xferByte b s)) := by
  obtain ⟨hq, hx⟩ := hans
  rw [step_of_seq_txXfer hq hseq, txXfer, hx]

theorem step_of_fail {s : State} (hq : quiet s.ports) (hx : s.ports.xfer = .fail) (hseq : s.seq = .txXfer) :
    step s = .next (advance (xferFail s)) := by
  rw [step_of_seq_txXfer hq hseq, txXfer, hx]

theorem outByte_eq_ite (w : ConfigWord) (k : Fin 4) :
    outByte w k = if k = 0 ∨ k = 2 then w.extractLsb' 8 8 else w.extractLsb' 0 8 := by
  fin_cases k <;> rfl

theorem outByte_eq_getD (w : ConfigWord) (k : Fin 4) : outByte w k = (frameBytes w).getD k.val 0 := by
  fin_cases k <;> rfl

/-- Settles O38: the byte is stored at its place in both ways that an answered transfer goes on. -/
theorem xferStoresTheByteReceived : Obligations.XferStoresTheByteReceived := by
  intro s b hans hseq
  refine ⟨_, step_of_byte hans hseq, ?_⟩
  rw [← outByte_eq_ite]
  obtain ⟨k, hk, e⟩ | ⟨hlast, e⟩ := xferByte_cases b s <;> rw [e]
  · have hlt := k.isLt
    exact ⟨rfl, rfl, fun j => byte_putByte s.rxBuf s.byteIdx j b, fun _ => ⟨hk, hseq⟩, fun h3 => by omega⟩
  · exact ⟨rfl, rfl, fun j => byte_putByte s.rxBuf s.byteIdx j b, fun hlt => by simp [hlast] at hlt, fun _ => ⟨rfl, rfl⟩⟩

/-- Settles O39: the failed transfer ends the frame, and the byte sent is the one of its index. -/
theorem xferFailureEndsTheFrame : Obligations.XferFailureEndsTheFrame := by
  intro s hq hx hseq
  rw [← outByte_eq_getD]
  exact stepsTo_of_step (step_of_fail hq hx hseq) rfl

/-! ## Answered transfers in a row -/

/-- The buffer after answered transfers from the index on. -/
def putBytes : BitVec 32 → Nat → List Byte → BitVec 32
  | buf, _, [] => buf
  | buf, k, b :: bs => putBytes (putByte buf (Fin.ofNat 4 k) b) (k + 1) bs

/-- The state after answered transfers that lead to the index `k`. -/
def transferred (bs : List Byte) (k : Fin 4) (s : State) : State :=
  { s with
    byteIdx := k
    rxBuf := putBytes s.rxBuf s.byteIdx.val bs
    events := s.events ++ (((frameBytes s.txWord).drop s.byteIdx.val).take bs.length).map .busXfer
    env := s.env.drop bs.length
    tick := s.tick + bs.length }

theorem drop_frameBytes (w : ConfigWord) (k : Fin 4) :
    (frameBytes w).drop k.val = outByte w k :: (frameBytes w).drop (k.val + 1) := by
  fin_cases k <;> rfl

/-- One answered transfer and then the rest of the row. -/
theorem transferred_cons (b : Byte) (bs : List Byte) {j : Fin 4} (k : Fin 4) {s : State}
    (hj : j.val = s.byteIdx.val + 1) :
    transferred bs k (advance { storeByte b s with byteIdx := j }) = transferred (b :: bs) k s := by
  simp [transferred, storeByte, advance, putBytes, hj, drop_frameBytes s.txWord s.byteIdx, Nat.add_assoc, Nat.add_comm 1]

/-- A row of answered transfers within the frame runs to its end. -/
theorem run_transfers {ps rest : List Ports} {bs : List Byte} (hans : List.Forall₂ answers ps bs) {s : State} {k : Fin 4}
    (henv : s.env = ps ++ rest) (hseq : s.seq = .txXfer) (hk : k.val = s.byteIdx.val + bs.length) :
    Host.Core.run core bs.length s = .next (transferred bs k s) := by
  induction hans generalizing s with
  | nil =>
    obtain rfl : k = s.byteIdx := Fin.ext hk
    simp [transferred, putBytes, Host.Core.run]
  | @cons p b ps bs hp hans ih =>
    have hports : s.ports = p := ports_of_env henv
    have hlt := k.isLt
    rw [List.length_cons] at hk
    obtain ⟨j, hj⟩ : ∃ j : Fin 4, j.val = s.byteIdx.val + 1 := ⟨⟨s.byteIdx.val + 1, by omega⟩, rfl⟩
    have hstep := step_of_byte (hports.symm ▸ hp) hseq
    rw [xferByte_of_lt hj] at hstep
    rw [List.length_cons, run_succ_of_step hstep, ← transferred_cons b bs k hj]
    have hk' : k.val = j.val + bs.length := by omega
    exact ih (by simp [storeByte, henv]) hseq hk'

/-! ## A frame whose transfers are answered (R148) -/

/-- The coming port levels answer a frame with four bytes, from TX_BEGIN to TX_END. -/
def AnswersFrame (env : List Ports) (b0 b1 b2 b3 : Byte) (rest : List Ports) : Prop :=
  ∃ p0 p1 p2 p3 p4 p5 : Ports, env = p0 :: p1 :: p2 :: p3 :: p4 :: p5 :: rest ∧ quiet p0 ∧ answers p1 b0 ∧
    answers p2 b1 ∧ answers p3 b2 ∧ answers p4 b3 ∧ quiet p5

/-- The state at TX_END after four answered transfers. -/
def answeredFrame (b0 b1 b2 b3 : Byte) (s : State) : State :=
  advance { storeByte b3 (transferred [b0, b1, b2] 3 (advance (txBegin s))) with seq := .txEnd }

theorem answeredFrame_events (b0 b1 b2 b3 : Byte) (s : State) :
    (answeredFrame b0 b1 b2 b3 s).events ++ [.busEnd, .csDeassert] = s.events ++ frameEvents (busCfg s) s.txWord := by
  simp [answeredFrame, storeByte, transferred, frameBytes, outByte, frameEvents]

/-- Six steps from TX_BEGIN run an answered frame to its completion. -/
theorem run_answered_frame {s : State} {b0 b1 b2 b3 : Byte} {rest : List Ports} (hseq : s.seq = .txBegin)
    (hans : AnswersFrame s.env b0 b1 b2 b3 rest) :
    Host.Core.run core 6 s = .next (advance (completeFrame (closeFrame (answeredFrame b0 b1 b2 b3 s)))) := by
  obtain ⟨p0, p1, p2, p3, p4, p5, henv, h0, h1, h2, h3, h4, h5⟩ := hans
  have hport0 : s.ports = p0 := ports_of_env henv
  have hbegin : step s = .next (advance (txBegin s)) := step_of_seq_txBegin (hport0.symm ▸ h0) hseq
  have hrow : List.Forall₂ answers [p1, p2, p3] [b0, b1, b2] := .cons h1 (.cons h2 (.cons h3 .nil))
  have henv1 : (advance (txBegin s)).env = [p1, p2, p3] ++ p4 :: p5 :: rest := by simp [henv]
  have hthree := run_transfers hrow (k := 3) henv1 rfl rfl
  have hport4 : (transferred [b0, b1, b2] 3 (advance (txBegin s))).ports = p4 :=
    ports_of_env (rest := p5 :: rest) (by simp [transferred, henv])
  have hlast := step_of_byte (hport4.symm ▸ h4) rfl
  rw [xferByte_of_last rfl] at hlast
  have hport5 : (answeredFrame b0 b1 b2 b3 s).ports = p5 :=
    ports_of_env (rest := rest) (by simp [answeredFrame, storeByte, transferred, henv])
  have hend := step_of_seq_txEnd (s := answeredFrame b0 b1 b2 b3 s) (hport5.symm ▸ h5) rfl
  calc Host.Core.run core 6 s = Host.Core.run core 5 (advance (txBegin s)) := run_succ_of_step hbegin 5
    _ = Host.Core.run core 2 (transferred [b0, b1, b2] 3 (advance (txBegin s))) := run_add hthree 2
    _ = Host.Core.run core 1 (answeredFrame b0 b1 b2 b3 s) := run_succ_of_step hlast 1
    _ = .next (advance (txEnd (answeredFrame b0 b1 b2 b3 s))) := run_succ_of_step hend 0

/-- An answered discard frame, with the commit of its word. -/
def discardFrame (b0 b1 b2 b3 : Byte) (s : State) : State := advance (commit (closeFrame (answeredFrame b0 b1 b2 b3 s)))

/-- An answered terminal frame, with the delivery of its sample. -/
def terminalFrame (b0 b1 b2 b3 : Byte) (s : State) : State := advance (deliver (closeFrame (answeredFrame b0 b1 b2 b3 s)))

theorem run_discard_frame {s : State} {b0 b1 b2 b3 : Byte} {rest : List Ports} (hseq : s.seq = .txBegin)
    (hphase : s.phase = .discard) (hans : AnswersFrame s.env b0 b1 b2 b3 rest) :
    Host.Core.run core 6 s = .next (discardFrame b0 b1 b2 b3 s) := by
  have hend := completeFrame_of_discard (s := closeFrame (answeredFrame b0 b1 b2 b3 s)) rfl hphase
  exact (run_answered_frame hseq hans).trans (congrArg (Host.Outcome.next ∘ advance) hend)

theorem run_terminal_frame {s : State} {b0 b1 b2 b3 : Byte} {rest : List Ports} (hseq : s.seq = .txBegin)
    (hphase : s.phase ≠ .discard) (hans : AnswersFrame s.env b0 b1 b2 b3 rest) :
    Host.Core.run core 6 s = .next (terminalFrame b0 b1 b2 b3 s) := by
  have hend := completeFrame_of_terminal (s := closeFrame (answeredFrame b0 b1 b2 b3 s)) rfl hphase
  exact (run_answered_frame hseq hans).trans (congrArg (Host.Outcome.next ∘ advance) hend)

theorem discardFrame_events (b0 b1 b2 b3 : Byte) (s : State) : (discardFrame b0 b1 b2 b3 s).events =
    s.events ++ frameEvents (busCfg s) s.txWord ++ [waitEvent s.txWord] := by
  rw [← answeredFrame_events b0 b1 b2 b3, waitEvent_eq]
  rfl

theorem terminalFrame_events (b0 b1 b2 b3 : Byte) (s : State) : (terminalFrame b0 b1 b2 b3 s).events =
    s.events ++ frameEvents (busCfg s) s.txWord :=
  answeredFrame_events b0 b1 b2 b3 s

theorem discardFrame_env {s : State} {b0 b1 b2 b3 : Byte} {rest : List Ports} (h : AnswersFrame s.env b0 b1 b2 b3 rest) :
    (discardFrame b0 b1 b2 b3 s).env = rest := by
  obtain ⟨p0, p1, p2, p3, p4, p5, henv, -⟩ := h
  simp [discardFrame, closeFrame, answeredFrame, storeByte, transferred, henv]

theorem terminalFrame_env {s : State} {b0 b1 b2 b3 : Byte} {rest : List Ports} (h : AnswersFrame s.env b0 b1 b2 b3 rest) :
    (terminalFrame b0 b1 b2 b3 s).env = rest := by
  obtain ⟨p0, p1, p2, p3, p4, p5, henv, -⟩ := h
  simp [terminalFrame, closeFrame, answeredFrame, storeByte, transferred, henv]

/-! What the two ends of an answered frame leave of the registers: the commit writes `cfg` and `lastMode` (R174). -/

@[simp] theorem discardFrame_cfg (b0 b1 b2 b3 : Byte) (s : State) : (discardFrame b0 b1 b2 b3 s).cfg = s.txWord := by
  simp [discardFrame, closeFrame, answeredFrame, storeByte, transferred]

@[simp] theorem discardFrame_lastMode (b0 b1 b2 b3 : Byte) (s : State) :
    (discardFrame b0 b1 b2 b3 s).lastMode = s.reqMode.asLast := by
  simp [discardFrame, closeFrame, answeredFrame, storeByte, transferred]

@[simp] theorem discardFrame_hostPos (b0 b1 b2 b3 : Byte) (s : State) :
    (discardFrame b0 b1 b2 b3 s).hostPos = s.hostPos := by
  simp [discardFrame, closeFrame, answeredFrame, storeByte, transferred]

@[simp] theorem terminalFrame_cfg (b0 b1 b2 b3 : Byte) (s : State) : (terminalFrame b0 b1 b2 b3 s).cfg = s.cfg := by
  simp [terminalFrame, closeFrame, answeredFrame, storeByte, transferred]

@[simp] theorem terminalFrame_lastMode (b0 b1 b2 b3 : Byte) (s : State) :
    (terminalFrame b0 b1 b2 b3 s).lastMode = s.lastMode := by
  simp [terminalFrame, closeFrame, answeredFrame, storeByte, transferred]

@[simp] theorem terminalFrame_hostPos (b0 b1 b2 b3 : Byte) (s : State) :
    (terminalFrame b0 b1 b2 b3 s).hostPos = s.hostPos := by
  simp [terminalFrame, closeFrame, answeredFrame, storeByte, transferred]

/-- Settles O42: the frame ends in its commit or its delivery, whose events and buffer are those of the four transfers. -/
theorem answeredFrameRunsToItsEnd : Obligations.AnsweredFrameRunsToItsEnd := by
  intro s p0 p1 p2 p3 p4 p5 rest b0 b1 b2 b3 hseq henv h0 h1 h2 h3 h4 h5
  have hans : AnswersFrame s.env b0 b1 b2 b3 rest := ⟨p0, p1, p2, p3, p4, p5, henv, h0, h1, h2, h3, h4, h5⟩
  by_cases hphase : s.phase = .discard
  · simp only [hphase, if_true]
    exact ⟨_, run_discard_frame hseq hphase hans, rfl, rfl, rfl, toNat_frameBuf b0 b1 b2 b3,
      discardFrame_events b0 b1 b2 b3 s, rfl⟩
  · simp only [hphase, if_false, List.append_nil]
    exact ⟨_, run_terminal_frame hseq hphase hans, rfl, rfl, rfl, toNat_frameBuf b0 b1 b2 b3,
      terminalFrame_events b0 b1 b2 b3 s, rfl⟩

/-! ## A frame with a failed transfer (R145, R148) -/

/-- The coming port levels answer the bytes and then fail, from TX_BEGIN to TX_END. -/
def FailsFrame (env : List Ports) (bs : List Byte) (rest : List Ports) : Prop :=
  ∃ (p0 pf pe : Ports) (ps : List Ports), env = p0 :: (ps ++ pf :: pe :: rest) ∧ quiet p0 ∧ List.Forall₂ answers ps bs ∧
    quiet pf ∧ pf.xfer = .fail ∧ quiet pe

/-- The state after a frame whose transfer `k` failed. -/
def failedFrame (bs : List Byte) (k : Fin 4) (s : State) : State :=
  advance (raiseStatus .busError (closeFrame (advance (xferFail (transferred bs k (advance (txBegin s)))))))

theorem run_failed_frame {s : State} {bs : List Byte} {k : Fin 4} {rest : List Ports} (hseq : s.seq = .txBegin)
    (hk : k.val = bs.length) (hfail : FailsFrame s.env bs rest) :
    Host.Core.run core (bs.length + 3) s = .next (failedFrame bs k s) ∧ (failedFrame bs k s).env = rest := by
  obtain ⟨p0, pf, pe, ps, henv, h0, hans, hf, hx, he⟩ := hfail
  have hport0 : s.ports = p0 := ports_of_env henv
  have hbegin : step s = .next (advance (txBegin s)) := step_of_seq_txBegin (hport0.symm ▸ h0) hseq
  have henv1 : (advance (txBegin s)).env = ps ++ pf :: pe :: rest := by simp [henv]
  have hrow := run_transfers hans (k := k) henv1 rfl (by simp [hk])
  have henv2 : (transferred bs k (advance (txBegin s))).env = pf :: pe :: rest := by
    simp [transferred, henv, ← hans.length_eq]
  have hportf := ports_of_env henv2
  have hxfer := step_of_fail (hportf.symm ▸ hf) (hportf.symm ▸ hx) rfl
  have henv3 : (advance (xferFail (transferred bs k (advance (txBegin s))))).env = pe :: rest := by simp [henv2]
  have hporte := ports_of_env henv3
  have hend := step_of_seq_txEnd (hporte.symm ▸ he) rfl
  rw [txEnd_eq_completeFrame, completeFrame_of_fail rfl] at hend
  refine ⟨?_, by simp [failedFrame, closeFrame, henv2]⟩
  calc Host.Core.run core (bs.length + 3) s
      = Host.Core.run core (bs.length + 2) (advance (txBegin s)) := run_succ_of_step hbegin _
    _ = Host.Core.run core 2 (transferred bs k (advance (txBegin s))) := run_add hrow 2
    _ = Host.Core.run core 1 (advance (xferFail (transferred bs k (advance (txBegin s))))) := run_succ_of_step hxfer 1
    _ = .next (failedFrame bs k s) := run_succ_of_step hend 0

/-- There is no commit, and the command has been taken before (R177). -/
theorem failedFrame_kept (bs : List Byte) (k : Fin 4) (s : State) : (failedFrame bs k s).cfg = s.cfg ∧
    (failedFrame bs k s).lastMode = s.lastMode ∧ (failedFrame bs k s).hostPos = s.hostPos := by
  simp [failedFrame, closeFrame, transferred]

theorem failedFrame_events {bs : List Byte} {k : Fin 4} (hk : k.val = bs.length) (s : State) :
    (failedFrame bs k s).events = s.events ++ [.csAssert, .busBegin (busCfg s)] ++
      ((frameBytes s.txWord).take (bs.length + 1)).map Event.busXfer ++ [.busEnd, .csDeassert] := by
  rw [← hk, take_frameBytes_succ]
  simp [failedFrame, closeFrame, transferred, hk]

/-- Settles O43: the frame ends in BUS_ERROR, which writes the response alone, after the events of the bytes sent. -/
theorem failedFrameIsCutAndClosed : Obligations.FailedFrameIsCutAndClosed := by
  intro s p0 pf pe ps rest bs hseq henv hans hlen h0 hf hx he
  obtain ⟨k, hk⟩ : ∃ k : Fin 4, k.val = bs.length := ⟨⟨bs.length, by omega⟩, rfl⟩
  obtain ⟨hrun, -⟩ := run_failed_frame hseq hk ⟨p0, pf, pe, ps, henv, h0, hans, hf, hx, he⟩
  obtain ⟨hcfg, hlast, -⟩ := failedFrame_kept bs k s
  exact ⟨_, hrun, rfl, rfl, rfl, hk, rfl, rfl, rfl, rfl, hcfg, hlast, failedFrame_events hk s⟩

end Sys2Proof.Proofs
end

/-! # Proofs about whole commands (spec/43_conversion_fsm.md, spec/70_reset_and_hazards.md section 3) -/

section
namespace Sys2Proof.Proofs

open Sys2Proof.Machine

/-! ## The value delivered for an acquisition command (R177) -/

/-- The table of R177 has a row for every acquisition command. -/
theorem deliveredInt_of_acquisition {op : BitVec 4} (hop : isAcquisitionOp op = true) (sample : Sample)
    (cfg : ConfigWord) : ∃ v, deliveredInt op sample cfg = some v := by
  have hrow : (op = 0x7 ∨ op = 0x9 ∨ op = 0xB) ∨ (op = 0x8 ∨ op = 0xA) ∨ op = 0xC := by
    revert hop
    revert op
    decide
  unfold deliveredInt
  split_ifs with h0 hmv htemp
  · exact ⟨_, rfl⟩
  · exact ⟨_, rfl⟩
  · exact ⟨_, rfl⟩
  · exact absurd hrow (not_or.mpr ⟨h0, not_or.mpr ⟨hmv, htemp⟩⟩)

theorem deliveredInt_eq_deliveredValue {op : BitVec 4} (hop : isAcquisitionOp op = true) (sample : Sample)
    (cfg : ConfigWord) :
    deliveredInt op sample cfg = some (deliveredValue op sample (decodeFields cfg).2.gain).toInt := by
  obtain ⟨v, hv⟩ := deliveredInt_of_acquisition hop sample cfg
  rw [hv, deliveredValue_toInt hv]

/-! ## The accept step of a blocking acquisition -/

/-- The four commands that request a blocking acquisition, with the mode and the channel of each. -/
theorem blockingRequest_cases {i : Instr} {op : BitVec 4} {m : SensorMode} {c : BitVec 3} {s : State}
    (h : blockingRequest i s = some (op, m, c)) :
    (∃ a ≤ 7, i = .readAdc a ∧ op = 0x7 ∧ m = .adc ∧ c = BitVec.ofNat 3 a) ∨
      (∃ a ≤ 7, i = .readMv a ∧ op = 0x8 ∧ m = .adc ∧ c = BitVec.ofNat 3 a) ∨
      (i = .readRaw ∧ op = 0xB ∧ m = rawMode s ∧ c = s.cfg.extractLsb' 1 3) ∨
      (i = .readTemp ∧ op = 0xC ∧ m = .temperature ∧ c = s.cfg.extractLsb' 1 3) := by
  cases i with
  | readAdc a =>
    obtain ⟨hle, hreq⟩ := Option.ite_none_right_eq_some.mp h
    cases hreq
    exact .inl ⟨a, hle, rfl, rfl, rfl, rfl⟩
  | readMv a =>
    obtain ⟨hle, hreq⟩ := Option.ite_none_right_eq_some.mp h
    cases hreq
    exact .inr (.inl ⟨a, hle, rfl, rfl, rfl, rfl⟩)
  | readRaw =>
    refine .inr (.inr (.inl ?_))
    simp only [blockingRequest] at h
    split at h
    case h_1 hlast =>
      cases h
      exact ⟨rfl, rfl, (rawMode_of_adc hlast).symm, rfl⟩
    case h_2 hlast =>
      cases h
      exact ⟨rfl, rfl, (rawMode_of_temperature hlast).symm, rfl⟩
    case h_3 hlast =>
      cases h
      exact ⟨rfl, rfl, (rawMode_of_uninitialized hlast).symm, rfl⟩
  | readTemp =>
    cases h
    exact .inr (.inr (.inr ⟨rfl, rfl, rfl, rfl⟩))
  | _ => cases h

/-- The accept step of a command that requests a blocking acquisition starts it (R180, R231, R233, R234). -/
theorem exec_of_blockingRequest {i : Instr} {op : BitVec 4} {m : SensorMode} {c : BitVec 3} {s : State}
    (h : blockingRequest i s = some (op, m, c)) :
    exec i s = .next (startBlocking m c (acceptOp op s)) := by
  obtain ⟨a, hle, rfl, rfl, rfl, rfl⟩ | ⟨a, hle, rfl, rfl, rfl, rfl⟩ | ⟨rfl, rfl, rfl, rfl⟩ | ⟨rfl, rfl, rfl, rfl⟩ :=
    blockingRequest_cases h
  · exact exec_readAdc_of_le hle
  · exact exec_readMv_of_le hle
  · exact exec_readRaw s
  · exact exec_readTemp s

/-- A command that requests a blocking acquisition is read back from its word. -/
theorem decode_encode_of_blockingRequest {i : Instr} {op : BitVec 4} {m : SensorMode} {c : BitVec 3} {s : State}
    (h : blockingRequest i s = some (op, m, c)) : decode (encode i) = .ok i := by
  apply decodeInvertsEncode
  obtain ⟨a, hle, rfl, -⟩ | ⟨a, hle, rfl, -⟩ | ⟨rfl, -⟩ | ⟨rfl, -⟩ := blockingRequest_cases h
  · exact decide_eq_true (by omega)
  · exact decide_eq_true (by omega)
  · rfl
  · rfl

theorem isAcquisitionOp_of_blockingRequest {i : Instr} {op : BitVec 4} {m : SensorMode} {c : BitVec 3} {s : State}
    (h : blockingRequest i s = some (op, m, c)) : isAcquisitionOp op = true := by
  obtain ⟨_, _, _, rfl, _⟩ | ⟨_, _, _, rfl, _⟩ | ⟨_, rfl, _⟩ | ⟨_, rfl, _⟩ := blockingRequest_cases h <;> rfl

/-- What a command requests depends on `cfg` and `lastMode` alone. -/
theorem blockingRequest_congr (i : Instr) {s t : State} (hcfg : t.cfg = s.cfg) (hlast : t.lastMode = s.lastMode) :
    blockingRequest i t = blockingRequest i s := by
  simp only [blockingRequest, hcfg, hlast]

theorem changeNeeded_congr (m : SensorMode) (c : BitVec 3) {s t : State} (hcfg : t.cfg = s.cfg)
    (hlast : t.lastMode = s.lastMode) : changeNeeded m c t ↔ changeNeeded m c s := by
  simp only [changeNeeded, hcfg, hlast]

/-- The state after the accept step of a blocking acquisition that makes a change. -/
def discardStarted (op : BitVec 4) (m : SensorMode) (c : BitVec 3) (s : State) : State :=
  advance { started op s with
    reqMode := m, reqChan := c, txWord := stagedBits m c s.cfg, phase := .discard, seq := .txBegin }

/-- The state after the accept step of a blocking acquisition that makes none. -/
def waitStarted (op : BitVec 4) (m : SensorMode) (c : BitVec 3) (s : State) : State :=
  advance { started op s with reqMode := m, reqChan := c, seq := .wait, events := s.events ++ [waitEvent s.cfg] }

theorem step_discardStarted {i : Instr} {op : BitVec 4} {m : SensorMode} {c : BitVec 3} {s : State}
    (hidle : s.seq = .idle) (hreq : blockingRequest i s = some (op, m, c)) (hchange : changeNeeded m c s)
    (hcmd : commands s.ports (encode i)) : step s = .next (discardStarted op m c s) := by
  have hstart := startBlocking_of_change (s := acceptOp op s) hchange
  rw [step_of_decode_ok hidle hcmd (decode_encode_of_blockingRequest hreq), exec_of_blockingRequest hreq, hstart]
  rfl

theorem step_waitStarted {i : Instr} {op : BitVec 4} {m : SensorMode} {c : BitVec 3} {s : State}
    (hidle : s.seq = .idle) (hreq : blockingRequest i s = some (op, m, c)) (hchange : ¬ changeNeeded m c s)
    (hcmd : commands s.ports (encode i)) : step s = .next (waitStarted op m c s) := by
  have hstart := startBlocking_of_no_change (s := acceptOp op s) hchange
  rw [step_of_decode_ok hidle hcmd (decode_encode_of_blockingRequest hreq), exec_of_blockingRequest hreq, hstart]
  rfl

/-! ## Wait and final frame (R176, R177) -/

/-- The state after the timer's expiry. -/
def expired (s : State) : State := advance { s with txWord := s.cfg, phase := .final, seq := .txBegin }

/-- The wait and the final frame of `cfg`, after whatever came before. -/
theorem run_wait_final {s : State} {pw : Ports} {env rest : List Ports} {b0 b1 b2 b3 : Byte} (hseq : s.seq = .wait)
    (henv : s.env = pw :: env) (hq : quiet pw) (hexp : pw.timerExpired = true)
    (hans : AnswersFrame env b0 b1 b2 b3 rest) :
    Host.Core.run core 7 s = .next (terminalFrame b0 b1 b2 b3 (expired s)) := by
  have hport : s.ports = pw := ports_of_env henv
  have henv' : (expired s).env = env := by simp [expired, henv]
  rw [run_succ_of_step (step_of_expired (hport.symm ▸ hq) hseq (hport.symm ▸ hexp)) 6]
  exact run_terminal_frame (s := expired s) rfl nofun (henv'.symm ▸ hans)

@[simp] theorem expired_cfg (s : State) : (expired s).cfg = s.cfg := rfl
@[simp] theorem expired_lastMode (s : State) : (expired s).lastMode = s.lastMode := rfl
@[simp] theorem expired_hostPos (s : State) : (expired s).hostPos = s.hostPos := rfl

theorem terminalFrame_rspRaw (b0 b1 b2 b3 : Byte) (s : State) :
    (terminalFrame b0 b1 b2 b3 s).rspRaw.toNat = b0.toNat * 2 ^ 8 + b1.toNat :=
  toNat_sample_frameBuf b0 b1 b2 b3

/-- The delivered value is the row of the command's opcode in the table of R177. -/
theorem terminalFrame_rspValue {s : State} (b0 b1 b2 b3 : Byte) (hop : isAcquisitionOp s.curOp = true) :
    deliveredInt s.curOp (terminalFrame b0 b1 b2 b3 s).rspRaw s.cfg =
      some (terminalFrame b0 b1 b2 b3 s).rspValue.toInt :=
  deliveredInt_eq_deliveredValue hop _ _

/-- Settles O44: accept step, discard frame, wait and final frame, each by its own lemma. -/
theorem blockingReadWithDiscardDelivers : Obligations.BlockingReadWithDiscardDelivers := by
  intro s i op m c pa pw d0 d1 d2 d3 d4 d5 f0 f1 f2 f3 f4 f5 rest x0 x1 x2 x3 b0 b1 b2 b3 hidle hreq hchange henv hcmd
    hd0 hd1 hd2 hd3 hd4 hd5 hpw hexp hf0 hf1 hf2 hf3 hf4 hf5
  have hport : s.ports = pa := ports_of_env henv
  have hfinal : AnswersFrame (f0 :: f1 :: f2 :: f3 :: f4 :: f5 :: rest) b0 b1 b2 b3 rest :=
    ⟨f0, f1, f2, f3, f4, f5, rfl, hf0, hf1, hf2, hf3, hf4, hf5⟩
  have hdiscard : AnswersFrame (discardStarted op m c s).env x0 x1 x2 x3
      (pw :: f0 :: f1 :: f2 :: f3 :: f4 :: f5 :: rest) :=
    ⟨d0, d1, d2, d3, d4, d5, congrArg List.tail henv, hd0, hd1, hd2, hd3, hd4, hd5⟩
  have hrun : Host.Core.run core 14 s =
      .next (terminalFrame b0 b1 b2 b3 (expired (discardFrame x0 x1 x2 x3 (discardStarted op m c s)))) :=
    calc Host.Core.run core 14 s = Host.Core.run core 13 (discardStarted op m c s) :=
          run_succ_of_step (step_discardStarted hidle hreq hchange (hport.symm ▸ hcmd)) 13
      _ = Host.Core.run core 7 (discardFrame x0 x1 x2 x3 (discardStarted op m c s)) :=
          run_add (run_discard_frame rfl rfl hdiscard) 7
      _ = _ := run_wait_final rfl (discardFrame_env hdiscard) hpw hexp hfinal
  have hvalue := terminalFrame_rspValue (s := expired (discardFrame x0 x1 x2 x3 (discardStarted op m c s))) b0 b1 b2 b3
    (isAcquisitionOp_of_blockingRequest hreq)
  have henv' : (expired (discardFrame x0 x1 x2 x3 (discardStarted op m c s))).env =
      f0 :: f1 :: f2 :: f3 :: f4 :: f5 :: rest := congrArg List.tail (discardFrame_env hdiscard)
  have hevents := terminalFrame_events b0 b1 b2 b3 (expired (discardFrame x0 x1 x2 x3 (discardStarted op m c s)))
  have hevents' := discardFrame_events x0 x1 x2 x3 (discardStarted op m c s)
  refine ⟨_, hrun, rfl, rfl, rfl, rfl, terminalFrame_rspRaw .., hvalue, ?_, ?_, ?_,
    terminalFrame_env (henv'.symm ▸ hfinal), hevents.trans (congrArg (· ++ _) hevents')⟩
  · simp [discardStarted]
  · simp [discardStarted]
  · simp [discardStarted, started]

/-- Settles O45: accept step, wait and final frame, each by its own lemma. -/
theorem blockingReadWithoutDiscardDelivers : Obligations.BlockingReadWithoutDiscardDelivers := by
  intro s i op m c pa pw f0 f1 f2 f3 f4 f5 rest b0 b1 b2 b3 hidle hreq hchange henv hcmd hpw hexp hf0 hf1 hf2 hf3 hf4 hf5
  have hport : s.ports = pa := ports_of_env henv
  have hfinal : AnswersFrame (f0 :: f1 :: f2 :: f3 :: f4 :: f5 :: rest) b0 b1 b2 b3 rest :=
    ⟨f0, f1, f2, f3, f4, f5, rfl, hf0, hf1, hf2, hf3, hf4, hf5⟩
  have henv1 : (waitStarted op m c s).env = pw :: f0 :: f1 :: f2 :: f3 :: f4 :: f5 :: rest := congrArg List.tail henv
  have henv2 : (expired (waitStarted op m c s)).env = f0 :: f1 :: f2 :: f3 :: f4 :: f5 :: rest :=
    congrArg List.tail henv1
  have hrun : Host.Core.run core 8 s = .next (terminalFrame b0 b1 b2 b3 (expired (waitStarted op m c s))) :=
    (run_succ_of_step (step_waitStarted hidle hreq hchange (hport.symm ▸ hcmd)) 7).trans
      (run_wait_final rfl henv1 hpw hexp hfinal)
  have hvalue := terminalFrame_rspValue (s := expired (waitStarted op m c s)) b0 b1 b2 b3
    (isAcquisitionOp_of_blockingRequest hreq)
  refine ⟨_, hrun, rfl, rfl, rfl, rfl, terminalFrame_rspRaw .., hvalue, ?_, ?_, ?_,
    terminalFrame_env (henv2.symm ▸ hfinal), terminalFrame_events ..⟩ <;> simp [waitStarted, started]

/-! ## A non-blocking acquisition (R178) -/

/-- The state after the accept step of a non-blocking acquisition with the line asserted. -/
def nowaitStarted (op : BitVec 4) (s : State) : State :=
  advance { started op s with txWord := s.cfg, phase := .nowait, seq := .txBegin }

/-- The two non-blocking commands. -/
theorem nonBlocking_cases {i : Instr} {op : BitVec 4}
    (h : (i, op) ∈ [(Instr.readAdcNw, 0x9#4), (Instr.readMvNw, 0xA#4)]) :
    decode (encode i) = .ok i ∧ isAcquisitionOp op = true ∧
      ∀ s, exec i s = .next (startNonBlocking (acceptOp op s)) := by
  simp only [List.mem_cons, Prod.mk.injEq, List.not_mem_nil, or_false] at h
  obtain ⟨rfl, rfl⟩ | ⟨rfl, rfl⟩ := h
  · exact ⟨decodeInvertsEncode _ rfl, rfl, exec_readAdcNw⟩
  · exact ⟨decodeInvertsEncode _ rfl, rfl, exec_readMvNw⟩

/-- Settles O46: accept step and terminal frame, each by its own lemma. -/
theorem nonBlockingReadDelivers : Obligations.NonBlockingReadDelivers := by
  intro s i op pa f0 f1 f2 f3 f4 f5 rest b0 b1 b2 b3 hmem hidle hdrdy henv hcmd hline hf0 hf1 hf2 hf3 hf4 hf5
  obtain ⟨hdec, hop, hexec⟩ := nonBlocking_cases hmem
  have hport : s.ports = pa := ports_of_env henv
  have hready := (nonBlockingStartClaim_of_exec (hexec s)).1 ⟨hdrdy, hport.symm ▸ hline⟩
  have hstep : step s = .next (nowaitStarted op s) := by
    rw [step_of_decode_ok hidle (hport.symm ▸ hcmd) hdec, hready]
    rfl
  have hans : AnswersFrame (nowaitStarted op s).env b0 b1 b2 b3 rest :=
    ⟨f0, f1, f2, f3, f4, f5, congrArg List.tail henv, hf0, hf1, hf2, hf3, hf4, hf5⟩
  have hrun := (run_succ_of_step hstep 6).trans (run_terminal_frame rfl nofun hans)
  have hvalue := terminalFrame_rspValue (s := nowaitStarted op s) b0 b1 b2 b3 hop
  refine ⟨_, hrun, rfl, rfl, rfl, rfl, terminalFrame_rspRaw .., hvalue, ?_, ?_, ?_, terminalFrame_env hans,
    terminalFrame_events ..⟩ <;> simp [nowaitStarted, started]

/-! ## The setter hazard (R285) -/

/-- The rate, and with it the wait, is another field than the channel. -/
theorem waitEvent_withMux (v : BitVec 3) (w : ConfigWord) :
    waitEvent (updateFields (Fields.withMux v) w) = waitEvent w := by
  rw [waitEvent_eq, waitEvent_eq, decodeFields_updateFields]
  rfl

/-- The channel a setter wrote is the one that a read of it finds held (R171). -/
theorem not_changeNeeded_of_mux {v : BitVec 3} {w : ConfigWord} {s : State} (hlast : s.lastMode = .adc)
    (hcfg : s.cfg = updateFields (Fields.withMux v) w) : ¬ changeNeeded .adc v s := by
  have hmux : (decodeFields s.cfg).2.mux = v := by
    rw [hcfg, decodeFields_updateFields]
    rfl
  rintro (h | h)
  · exact h hlast
  · exact h hmux

/-- The state after the accept step of a SET_MUX in range. -/
def muxSet (c : Nat) (s : State) : State :=
  advance (answered 0x4 .ok (updateFields (Fields.withMux (BitVec.ofNat 3 c)) s.cfg) 0
    { s with cfg := updateFields (Fields.withMux (BitVec.ofNat 3 c)) s.cfg })

theorem step_setMux {s : State} {c : Nat} (hc : c ≤ 7) (hidle : s.seq = .idle)
    (hcmd : commands s.ports (encode (.setMux c))) : step s = .next (muxSet c s) := by
  have hdec : decode (encode (.setMux c)) = .ok (.setMux c) := decodeInvertsEncode _ (decide_eq_true (by omega))
  have hexec : exec (.setMux c) s = .next (runSetter 3 7 Fields.withMux c (acceptOp 0x4 s)) := rfl
  rw [step_of_decode_ok hidle hcmd hdec, hexec, runSetter_of_le _ _ hc]
  rfl

/-- Settles O57: the setter's word holds the channel, so the read makes no change and starts the timer. -/
theorem setMuxThenReadRunsNoDiscard : Obligations.SetMuxThenReadRunsNoDiscard := by
  intro s c p q rest hc hidle hlast henv hset hread
  have hport : s.ports = p := ports_of_env henv
  have hport' : (muxSet c s).ports = q := ports_of_env (rest := rest) (congrArg List.tail henv)
  have hreq : blockingRequest (.readAdc c) (muxSet c s) = some (0x7, .adc, BitVec.ofNat 3 c) := if_pos hc
  have hno : ¬ changeNeeded .adc (BitVec.ofNat 3 c) (muxSet c s) := not_changeNeeded_of_mux hlast rfl
  have hrun := (run_succ_of_step (step_setMux hc hidle (hport.symm ▸ hset)) 1).trans
    (run_succ_of_step (step_waitStarted (s := muxSet c s) hidle hreq hno (hport'.symm ▸ hread)) 0)
  have hcfg := updateFields_withMux (BitVec.ofNat 3 c) s.cfg
  rw [setWidth_ofNat (by omega)] at hcfg
  refine ⟨_, hrun, rfl, rfl, hcfg, ?_⟩
  rw [← waitEvent_withMux (BitVec.ofNat 3 c) s.cfg]
  rfl

/-! ## The failed-frame hazard (R287) -/

/-- Settles O58: the failed frame leaves `cfg` and `lastMode`, on which the request, the change and the word depend. -/
theorem failedDiscardIsRepeated : Obligations.FailedDiscardIsRepeated := by
  intro s i op m c p0 p1 pf pe p4 ps rest bs hidle hreq hchange henv hcmd h1 hans hlen hf hx he hcmd'
  obtain ⟨k, hk⟩ : ∃ k : Fin 4, k.val = bs.length := ⟨⟨bs.length, by omega⟩, rfl⟩
  have hport : s.ports = p0 := ports_of_env henv
  have hstart := step_discardStarted hidle hreq hchange (hport.symm ▸ hcmd)
  have hfails : FailsFrame (discardStarted op m c s).env bs (p4 :: rest) :=
    ⟨p1, pf, pe, ps, congrArg List.tail henv, h1, hans, hf, hx, he⟩
  obtain ⟨hframe, henv'⟩ := run_failed_frame (s := discardStarted op m c s) rfl hk hfails
  obtain ⟨hcfg, hlast, hpos⟩ := failedFrame_kept bs k (discardStarted op m c s)
  have hport4 : (failedFrame bs k (discardStarted op m c s)).ports = p4 := ports_of_env henv'
  have hagain := step_discardStarted (s := failedFrame bs k (discardStarted op m c s)) rfl
    ((blockingRequest_congr i hcfg hlast).trans hreq) ((changeNeeded_congr m c hcfg hlast).mpr hchange)
    (hport4.symm ▸ hcmd')
  have hrun : Host.Core.run core (bs.length + 5) s =
      .next (discardStarted op m c (failedFrame bs k (discardStarted op m c s))) :=
    calc Host.Core.run core (bs.length + 5) s
        = Host.Core.run core (bs.length + 3 + 1) (discardStarted op m c s) := run_succ_of_step hstart _
      _ = Host.Core.run core 1 (failedFrame bs k (discardStarted op m c s)) := run_add hframe 1
      _ = _ := run_succ_of_step hagain 0
  exact ⟨_, hrun, hcfg, hlast, rfl, rfl, congrArg (stagedBits m c) hcfg, rfl, rfl, rfl, congrArg (· + 1) hpos,
    congrArg List.tail henv'⟩

end Sys2Proof.Proofs
end
